-- ==== Sys2Proof/Word.lean ====
section
/-! DEFINITION. The words of the autotuner CORE: bus words, bytes, samples, offsets. -/

namespace Sys2Proof

/-- A 32-bit bus word (00_scope.md R8). It also carries a binary32 pattern (R10). -/
abbrev Word := BitVec 32

/-- One byte lane of the bus (20_memory.md R81). -/
abbrev Byte := BitVec 8

/-- An int16 sample in two's complement (00_scope.md R8). -/
abbrev Sample := BitVec 16

/-- A byte offset from CORE_BASE (20_memory.md R80). -/
abbrev Offset := BitVec 16

end Sys2Proof
end

