-- ==== Sys2Proof/Config.lean ====
section
/-! DEFINITION. What is fixed for this hardware (00_scope.md R6 to R8), its open parameters, and the free values. -/

namespace Sys2Proof.Config

/-- ID, the hardwired identity (10_state.md R34). -/
def idValue : Word := 0x41430001#32

/-- N, the samples of a frame (00_scope.md R6). -/
abbrev frameSize : Nat := 1024

/-- LAG_LIMIT, the exclusive upper lag (00_scope.md R6). -/
abbrev lagLimit : Nat := 512

/-- SAMPLE_RATE in Hz, the unsigned integer (00_scope.md R6). -/
def sampleRate : Nat := 44100

/-- SAMPLE_RATE as binary32 (00_scope.md R6). -/
def sampleRateF : Word := 0x472C4400#32

/-- CORR_THRESH, 0.5 (00_scope.md R6). -/
def corrThresh : Word := 0x3F000000#32

/-- FREQ_MIN, 50 Hz, exclusive (00_scope.md R6). -/
def freqMin : Word := 0x42480000#32

/-- FREQ_MAX, 2000 Hz, exclusive (00_scope.md R6). -/
def freqMax : Word := 0x44FA0000#32

/-- DEAD_ZONE, 0.01 rounded to binary32 (00_scope.md R6). -/
def deadZone : Word := 0x3C23D70A#32

/-- SCALE_COUNT (00_scope.md R6). -/
abbrev scaleCount : Nat := 13

/-- SAMPLE_MIN (00_scope.md R6). -/
def sampleMin : Int := -32768

/-- SAMPLE_MAX (00_scope.md R6). -/
def sampleMax : Int := 32767

/-- SAMPLE_MIN as binary32. -/
def sampleMinF : Word := 0xC7000000#32

/-- SAMPLE_MAX as binary32. -/
def sampleMaxF : Word := 0x46FFFE00#32

/-- NORM, the int16 to float scale, 2^15 (00_scope.md R6). -/
def norm : Nat := 32768

/-- NORM as binary32 (00_scope.md R6). -/
def normF : Word := 0x47000000#32

/-- The scale ROM, ascending (00_scope.md R7; log 15). -/
def scaleTable : Vector Word scaleCount :=
  #v[0x4382D0A4#32, 0x438A970A#32, 0x4392D47B#32, 0x439B90A4#32, 0x43A4D0A4#32, 0x43AE9D71#32, 0x43B8FEB8#32,
     0x43C40000#32, 0x43CFA666#32, 0x43DC0000#32, 0x43E9147B#32, 0x43F6F0A4#32, 0x4402D000#32]

/-- SCALE[k] (00_scope.md R7). -/
def scale (k : Fin scaleCount) : Word := scaleTable[k]

/-- OPEN (93_implementation_defined.md U1): CORE_BASE in units of 64 KiB. No value of it can be proved (log 8). -/
opaque coreBasePage : Nat

/-- CORE_BASE, aligned to 64 KiB (20_memory.md R88). -/
def coreBase : Nat := coreBasePage * 65536

/-- OPEN (93_implementation_defined.md U2): the PROCESS latency. No rule and no definition uses it (log 9). -/
opaque tProcess : Nat

/-- FREE VALUE (20_memory.md R86, U3): the n-th word an unspecified read returns (log 2). -/
opaque busyRead : Nat → Word

/-- The four arithmetic primitives, as names for `arithOutside`. -/
inductive Prim where
  | add
  | sub
  | mul
  | div
  deriving DecidableEq, Repr

/-- FREE VALUE: a primitive on operands 00_scope.md R11 does not define it for (log 7). -/
opaque arithOutside : Prim → Word → Word → Word

/-- FREE VALUE: a comparison with a NaN, which 00_scope.md R12 says no rule makes (log 7). -/
opaque compareOutside : Word → Word → Bool

end Sys2Proof.Config
end

