-- ==== Sys2Proof/Syntax.lean ====
section
/-! DEFINITION. The nine commands, the host's bus transactions, the events of the total order, and host programs. -/

namespace Sys2Proof

/-- The commands of ATC-1, one per row of spec/opcode_table.json (30_encoding.md R101). None has an operand (R104). -/
inductive Instr where
  | nop
  | convert
  | detect
  | quantize
  | ratio
  | shift
  | clamp
  | pass
  | process
  deriving DecidableEq, Repr

/-- A host bus transaction (20_memory.md R80, 30_encoding.md R105): direction, 16-bit offset, 3-bit width, data (log 17). -/
inductive Transaction where
  | read (offset : Offset) (width : BitVec 3)
  | write (offset : Offset) (width : BitVec 3) (data : Word)
  deriving DecidableEq, Repr

/-- One step of the total order of 20_memory.md R90: a transaction of the host, the engine's turn, or a reset
(70_reset_and_hazards.md R271). See log 1. -/
inductive Event where
  | bus (t : Transaction)
  | engine
  | reset
  deriving DecidableEq, Repr

/-- A frame buffer: exactly N elements (10_state.md R30). -/
abbrev Frame (α : Type) := Vector α Config.frameSize

/-- Host statements (30_encoding.md R106, R107). -/
inductive Stmt where
  | wr (offset : Offset) (value : Word)
  | rd (offset : Offset)
  | rdw (offset : Offset) (width : BitVec 3)
  | wrw (offset : Offset) (width : BitVec 3) (value : Word)
  | cmd (i : Instr)
  | wait
  | run (i : Instr)
  | fill (values : Frame Word)
  | filly (values : Frame Word)
  | dump
  | ack
  deriving DecidableEq, Repr

end Sys2Proof
end

