-- ==== Sys2Proof/WellFormed.lean ====
section
/-! DEFINITION. Well-formed command words and well-formed bus transactions. -/

namespace Sys2Proof

/-- Bits [7:0] of a command word (30_encoding.md R100). -/
abbrev opcodeField (w : Word) : BitVec 8 := w.extractLsb' 0 8

/-- Bits [31:8] of a command word are 0 (30_encoding.md R100). -/
abbrev reservedClear (w : Word) : Prop := w.extractLsb' 8 24 = 0#24

/-- A legal command word (30_encoding.md R101). -/
abbrev CommandWord.WellFormed (w : Word) : Prop := reservedClear w ∧ (opcodeField w).toNat ≤ 0x08

/-- The opcode number of a command (30_encoding.md R101), by which `Instr.WellFormed` reads it. -/
def Instr.opcode (i : Instr) : Nat :=
  match i with
  | .nop => 0
  | .convert => 1
  | .detect => 2
  | .quantize => 3
  | .ratio => 4
  | .shift => 5
  | .clamp => 6
  | .pass => 7
  | .process => 8

/-- A command has no operand to be ill-formed in (30_encoding.md R104): its word is legal. -/
abbrev Instr.WellFormed (i : Instr) : Prop := CommandWord.WellFormed (BitVec.ofNat 32 i.opcode)

/-- The offset of a transaction. -/
def Transaction.offset (t : Transaction) : Offset :=
  match t with
  | .read a _ => a
  | .write a _ _ => a

/-- The width of a transaction. -/
def Transaction.width (t : Transaction) : BitVec 3 :=
  match t with
  | .read _ w => w
  | .write _ w _ => w

/-- The offsets 10_state.md R33 marks reserved (20_memory.md R83). -/
abbrev reservedOffset (a : Offset) : Prop :=
  (0x02C ≤ a.toNat ∧ a.toNat < 0x030) ∨ (0x050 ≤ a.toNat ∧ a.toNat < 0x080) ∨
    (0x0B4 ≤ a.toNat ∧ a.toNat < 0x1000) ∨ 0x5000 ≤ a.toNat

/-- A transaction that is no access error: 4 bytes, aligned, not reserved (20_memory.md R82, R83). -/
abbrev Transaction.WellFormed (t : Transaction) : Prop :=
  t.width = 4#3 ∧ t.offset.toNat % 4 = 0 ∧ ¬ reservedOffset t.offset

end Sys2Proof
end

