-- ==== Sys2Proof/Decode.lean ====
section
/-! DEFINITION. The decoder of command words, total and rejecting by name, and the encoder (30_encoding.md R100 to R102). -/

namespace Sys2Proof

/-- Why a word is no legal command (30_encoding.md R102). -/
inductive Reject where
  | reservedBits
  | reservedOpcode
  | notOneWord
  deriving DecidableEq, Repr

/-- The opcode map (30_encoding.md R101). -/
def decodeOpcode (op : BitVec 8) : Option Instr :=
  match op.toNat with
  | 0x00 => some .nop
  | 0x01 => some .convert
  | 0x02 => some .detect
  | 0x03 => some .quantize
  | 0x04 => some .ratio
  | 0x05 => some .shift
  | 0x06 => some .clamp
  | 0x07 => some .pass
  | 0x08 => some .process
  | _ => none

/-- A command word: OPCODE in [7:0], zero in [31:8] (30_encoding.md R100, R102). -/
def decode (w : Word) : Except Reject Instr :=
  if reservedClear w then
    match decodeOpcode (opcodeField w) with
    | some i => .ok i
    | none => .error .reservedOpcode
  else .error .reservedBits

/-- A word laid out as four byte lanes, lane 0 first, little-endian (20_memory.md R81). -/
def wordOfBytes (b0 b1 b2 b3 : Byte) : Word := b3 ++ b2 ++ b1 ++ b0

/-- Decoding bytes: every command is exactly 32 bits (30_encoding.md R100). -/
def decodeBytes (bs : List Byte) : Except Reject Instr :=
  match bs with
  | [b0, b1, b2, b3] => decode (wordOfBytes b0 b1 b2 b3)
  | _ => .error .notOneWord

/-- The byte lanes of a table word whose bits above `nbits` are 0 (log 14). -/
def tableBytes (nbits w : Nat) : List Byte :=
  let v := w % 2 ^ nbits
  let lanes := if v < 2 ^ 32 then [0, 1, 2, 3] else [0, 1, 2, 3, 4]
  lanes.map fun j => BitVec.ofNat 8 (v / 2 ^ (8 * j))

/-- What the decoder reads from a word as spec/opcode_table.json numbers it. -/
def decodeTableWord (nbits w : Nat) : Option Instr :=
  match decodeBytes (tableBytes nbits w) with
  | .ok i => some i
  | .error _ => none

/-- The word of each command, from the table of 30_encoding.md R101. -/
def encode (i : Instr) : Word :=
  match i with
  | .nop => 0x00000000#32
  | .convert => 0x00000001#32
  | .detect => 0x00000002#32
  | .quantize => 0x00000003#32
  | .ratio => 0x00000004#32
  | .shift => 0x00000005#32
  | .clamp => 0x00000006#32
  | .pass => 0x00000007#32
  | .process => 0x00000008#32

end Sys2Proof
end

