-- ==== Sys2Proof/Machine/State.lean ====
section
/-! DEFINITION. The architectural state (10_state.md R30), its reset value (70_reset_and_hazards.md R270), faults and refusals. -/

namespace Sys2Proof.Machine

/-- CTRL (10_state.md R35): one field, the rest reads 0 (log 5). -/
structure Ctrl where
  irqEn : Bool
  deriving DecidableEq, Repr

/-- STATUS (10_state.md R37), a register of independent bits; the reserved bits read 0 (log 5). -/
structure Status where
  busy : Bool
  done : Bool
  voiced : Bool
  inRange : Bool
  shifted : Bool
  errIllegal : Bool
  errBusy : Bool
  errOperand : Bool
  errAccess : Bool
  deriving DecidableEq, Repr

/-- The block: the tuple of 10_state.md R30. -/
structure Block where
  ctrl : Ctrl
  cmd : Word
  status : Status
  energy : Word
  maxcorr : Word
  bestlag : BitVec 9
  freq : Word
  noteidx : BitVec 4
  target : Word
  ratio : Word
  inp : Frame Sample
  out : Frame Sample
  x : Frame Word
  y : Frame Word
  pending : Option Instr
  deriving DecidableEq, Repr

/-- The machine: the block, and three fields of the model's own: the coming steps of the total order (log 1), the data
that reads have returned to the host, newest first (log 3), and the number of free draws taken (log 2). -/
structure State where
  block : Block
  agenda : List Event
  returned : List Word
  draws : Nat
  deriving DecidableEq, Repr

/-- The faults that stop the machine: there are none. An error sets a sticky STATUS bit and never stops the block
(60_exceptions.md R240), so nobody raises one, and a claim about a next state loses nothing to it. -/
inductive Fault where
  deriving DecidableEq, Repr

/-- The refusals. -/
inductive Refusal where
  /-- Raised by exec's arm of a command without a meaning. Safe. No arm raises it: all nine commands have their meaning. -/
  | notModelled (mnemonic : String)
  deriving DecidableEq, Repr

/-- A frame of one value. -/
abbrev Frame.fill {α : Type} (v : α) : Frame α := Vector.replicate Config.frameSize v

/-- STATUS after reset (70_reset_and_hazards.md R270). -/
def Status.reset : Status :=
  { busy := false, done := false, voiced := false, inRange := false, shifted := false,
    errIllegal := false, errBusy := false, errOperand := false, errAccess := false }

/-- The block after reset (70_reset_and_hazards.md R270). -/
def Block.reset : Block :=
  { ctrl := { irqEn := false }
    cmd := 0x00000000#32
    status := Status.reset
    energy := 0x00000000#32
    maxcorr := 0x00000000#32
    bestlag := 0#9
    freq := 0x00000000#32
    noteidx := 0xF#4
    target := 0x00000000#32
    ratio := 0x3F800000#32
    inp := Frame.fill 0#16
    out := Frame.fill 0#16
    x := Frame.fill 0x00000000#32
    y := Frame.fill 0x00000000#32
    pending := none }

/-- The machine right after reset: the block as 70_reset_and_hazards.md R270 says, no step scheduled (log 1), nothing read
yet (log 3), no draw taken (log 2). -/
def State.reset : State :=
  { block := Block.reset, agenda := [], returned := [], draws := 0 }

end Sys2Proof.Machine
end

