-- ==== Sys2Proof/Machine/Float.lean ====
section
/-! DEFINITION. binary32 (00_scope.md R10 to R12): exact values as integers, one rounding function, the primitives, comparisons.

Every finite binary32 datum is an integer multiple of 2^-149, so its exact value is held as that integer (units of 2^-149):
sums are exact integers, products and quotients exact fractions of integers, and each primitive rounds once at its end. -/

namespace Sys2Proof.Machine

/-- The sign bit w[31] (00_scope.md R10). -/
def signBit (w : Word) : Bool := w.msb

/-- Bits [30:0]: exponent above fraction (00_scope.md R10). -/
def magBits (w : Word) : Nat := w.toNat % 2 ^ 31

/-- The biased exponent w[30:23] (00_scope.md R10). -/
def expBits (w : Word) : Nat := magBits w / 2 ^ 23

/-- The fraction w[22:0] (00_scope.md R10). -/
def fracBits (w : Word) : Nat := magBits w % 2 ^ 23

/-- Neither an infinity nor a NaN (00_scope.md R10). -/
def isFinite (w : Word) : Bool := expBits w != 255

/-- NaN: exponent 255 and a nonzero fraction (00_scope.md R10). -/
def isNaN (w : Word) : Bool := expBits w == 255 && fracBits w != 0

/-- +Infinity or -Infinity (00_scope.md R10). -/
def isInf (w : Word) : Bool := expBits w == 255 && fracBits w == 0

/-- |exact(w)| in units of 2^-149, of a finite datum (00_scope.md R10). -/
def magUnits (w : Word) : Nat :=
  if expBits w = 0 then fracBits w else (2 ^ 23 + fracBits w) * 2 ^ (expBits w - 1)

/-- exact(w) in units of 2^-149, of a finite datum (00_scope.md R10, R12). -/
def exactUnits (w : Word) : Int := if signBit w then -(magUnits w : Int) else (magUnits w : Int)

/-- The pattern of a sign and the bits [30:0]. -/
def pack (neg : Bool) (mag : Nat) : Word := BitVec.ofNat 32 (if neg then 2 ^ 31 + mag else mag)

/-- n/d to the nearest integer, a tie to the even one. -/
def roundHalfEven (n d : Nat) : Nat :=
  if 2 * (n % d) < d then n / d
  else if d < 2 * (n % d) then n / d + 1
  else n / d + n / d % 2

/-- Bits [30:0] of the datum nearest to n/d units: with `k` binary places between the unit and the last place of the
result, the rounded significand added to `k` exponents is the pattern itself, carry into the exponent included, and what
reaches the exponent 255 is Infinity (00_scope.md R11). -/
def roundMag (n d : Nat) : Nat :=
  let k := (n / d).log2 - 23
  min (k * 2 ^ 23 + roundHalfEven n (d * 2 ^ k)) 0x7F800000

/-- rnd32 of ±(n/d) units of 2^-149, a zero result taking the sign given (00_scope.md R11). -/
def roundUnits (neg : Bool) (n d : Nat) : Word := pack neg (roundMag n d)

/-- rnd32 of the rational n/d (00_scope.md R11). -/
def rnd32 (n : Int) (d : Nat) : Word := roundUnits (decide (n < 0)) (n.natAbs * 2 ^ 149) d

/-- float(n), the datum of an integer (00_scope.md R15). -/
def floatOf (n : Int) : Word := rnd32 n 1

/-- The sum of two finite data. An exact zero is +0 unless both operands have the sign bit set (00_scope.md R11; log 12). -/
def addFinite (a b : Word) : Word :=
  let n := exactUnits a + exactUnits b
  if n = 0 then pack (signBit a && signBit b) 0 else roundUnits (decide (n < 0)) n.natAbs 1

/-- The operand with its sign turned. -/
def negate (a : Word) : Word := a ^^^ 0x80000000#32

/-- fadd (00_scope.md R11). On an operand that is not finite, no rule gives a result: a free value (log 7). -/
def fadd (a b : Word) : Word :=
  if isFinite a && isFinite b then addFinite a b else Config.arithOutside .add a b

/-- fsub (00_scope.md R11); free outside its operands (log 7). -/
def fsub (a b : Word) : Word :=
  if isFinite a && isFinite b then addFinite a (negate b) else Config.arithOutside .sub a b

/-- fmul (00_scope.md R11); free outside its operands (log 7). -/
def fmul (a b : Word) : Word :=
  if isFinite a && isFinite b then roundUnits (signBit a != signBit b) (magUnits a * magUnits b) (2 ^ 149)
  else Config.arithOutside .mul a b

/-- fdiv (00_scope.md R11); free outside its operands, a zero divisor among them (log 7). -/
def fdiv (a b : Word) : Word :=
  if isFinite a && isFinite b && magUnits b != 0 then
    roundUnits (signBit a != signBit b) (magUnits a * 2 ^ 149) (magUnits b)
  else Config.arithOutside .div a b

/-- fabs: the sign bit cleared (00_scope.md R11). -/
def fabs (a : Word) : Word := a &&& 0x7FFFFFFF#32

/-- An integer that orders patterns other than NaN as their values: +0 and -0 alike, infinities at the ends (00_scope.md R12). -/
def orderKey (w : Word) : Int := if signBit w then -(magBits w : Int) else (magBits w : Int)

/-- a < b on binary32 data (00_scope.md R12); with a NaN, a free value (log 7). -/
def flt (a b : Word) : Bool :=
  if isNaN a || isNaN b then Config.compareOutside a b else decide (orderKey a < orderKey b)

/-- a ≤ b on binary32 data (00_scope.md R12); with a NaN, a free value (log 7). -/
def fle (a b : Word) : Bool :=
  if isNaN a || isNaN b then Config.compareOutside a b else decide (orderKey a ≤ orderKey b)

/-- The datum is +0 or -0 (00_scope.md R12: +0 equals -0). -/
def isZero (w : Word) : Bool := magBits w == 0

/-- floor of a finite datum that is not negative (00_scope.md R9). -/
def floorNat (w : Word) : Nat := magUnits w / 2 ^ 149

/-- `k w`, the pattern computed before `k` goes on: it orders the kernel's evaluation of a long loop and changes no value
(Laws/Float.lean, forced_eq). -/
def forced {α : Type} (w : Word) (k : Word → α) : α :=
  match w.toNat with
  | 0 => k 0#32
  | n + 1 => k (BitVec.ofNat 32 (n + 1))

/-- sext_16 of a sample to a bus word (10_state.md R47). -/
def sext16 (s : Sample) : Word := s.signExtend 32

/-- +0.0. -/
def zeroF : Word := 0x00000000#32

/-- 1.0. -/
def oneF : Word := 0x3F800000#32

end Sys2Proof.Machine
end

