-- ==== Sys2Proof/Machine/Ops.lean ====
section
/-! DEFINITION. The shared operations: frames, raising and clearing errors, accepting and completing a command. -/

namespace Sys2Proof.Machine

/-! ## Frames -/

/-- The frame whose element i is `f i`. -/
def Frame.tabulate {α : Type} (f : Nat → α) : Frame α :=
  ⟨((List.range Config.frameSize).map f).toArray, by simp⟩

/-- The frame whose element i is `f` of element i. -/
def Frame.mapAll {α β : Type} (f : α → β) (v : Frame α) : Frame β :=
  ⟨(v.toList.map f).toArray, by simp⟩

/-- Element `min i (N - 1)`: no index past the frame is read (43_resampler.md R183; log 18). -/
def Frame.clampedAt {α : Type} (v : Frame α) (i : Nat) : α :=
  v[min i (Config.frameSize - 1)]'(Nat.lt_of_le_of_lt (Nat.min_le_right _ _) (by decide))

/-- The frame with one element replaced. -/
def Frame.put {α : Type} (v : Frame α) (i : Fin Config.frameSize) (e : α) : Frame α := v.set i e

/-! ## Errors: the block's only exceptions. They transfer no control and save no state (60_exceptions.md R240, R249). -/

/-- The four error causes (60_exceptions.md R241 to R244). -/
inductive ErrorCause where
  | illegal
  | busy
  | operand
  | access
  deriving DecidableEq, Repr

/-- `raise ERR_X`: sets the sticky bit and nothing else (60_exceptions.md R240). -/
def Block.raiseError (b : Block) (e : ErrorCause) : Block :=
  match e with
  | .illegal => { b with status := { b.status with errIllegal := true } }
  | .busy => { b with status := { b.status with errBusy := true } }
  | .operand => { b with status := { b.status with errOperand := true } }
  | .access => { b with status := { b.status with errAccess := true } }

/-- A STATUS write: each W1C bit is cleared where the data has a 1 (10_state.md R37, 60_exceptions.md R247). -/
def Block.acknowledge (b : Block) (data : Word) : Block :=
  { b with status :=
    { b.status with
      done := b.status.done && !data.getLsbD 1
      errIllegal := b.status.errIllegal && !data.getLsbD 8
      errBusy := b.status.errBusy && !data.getLsbD 9
      errOperand := b.status.errOperand && !data.getLsbD 10
      errAccess := b.status.errAccess && !data.getLsbD 11 } }

/-! ## The command lifecycle (40_command_lifecycle.md R120, R121) -/

/-- Acceptance of a legal word (40_command_lifecycle.md R120). -/
def Block.accept (b : Block) (w : Word) (i : Instr) : Block :=
  { b with cmd := w, status := { b.status with busy := true, done := false }, pending := some i }

/-- Completion, after the body (40_command_lifecycle.md R121). -/
def Block.complete (b : Block) : Block :=
  { b with status := { b.status with busy := false, done := true }, pending := none }

/-- The engine's step: a body and the completion, as one transition (40_command_lifecycle.md R121). -/
def State.finish (s : State) (body : Block → Block) : State :=
  { s with block := (body s.block).complete }

/-- Reset replaces the whole block, in any state; the host's side is not the block's (70_reset_and_hazards.md R271; log 11). -/
def State.resetBlock (s : State) : State := { s with block := Block.reset }

/-! ## A platform's byte view -/

/-- Byte lane j of a word: bits [8j+7:8j], little-endian (20_memory.md R81). -/
def laneByte (w : Word) (j : Fin 4) : Byte := w.extractLsb' (8 * j.val) 8

/-- The offset a platform address has in the block, if it lies in it (20_memory.md R88). -/
def platformOffset (addr : Nat) : Option Offset :=
  if Config.coreBase ≤ addr ∧ addr < Config.coreBase + 65536 then some (BitVec.ofNat 16 (addr - Config.coreBase)) else none

end Sys2Proof.Machine
end

