-- ==== Sys2Proof/Machine/Flags.lean ====
section
/-! DEFINITION. The words of STATUS and CTRL, the flag computations, and the interrupt output. -/

namespace Sys2Proof.Machine

/-- STATUS as the bus reads it (10_state.md R37). -/
def Status.toWord (s : Status) : Word :=
  BitVec.ofNat 32 (s.busy.toNat + 2 * s.done.toNat + 4 * s.voiced.toNat + 8 * s.inRange.toNat + 16 * s.shifted.toNat +
    256 * s.errIllegal.toNat + 512 * s.errBusy.toNat + 1024 * s.errOperand.toNat + 2048 * s.errAccess.toNat)

/-- CTRL as the bus reads it (10_state.md R35). -/
def Ctrl.toWord (c : Ctrl) : Word := BitVec.ofNat 32 c.irqEn.toNat

/-- STATUS as read while busy: bits 2 to 4 are those of the draw (20_memory.md R86; log 2). -/
def Status.toBusyWord (s : Status) (draw : Word) : Word :=
  { s with voiced := draw.getLsbD 2, inRange := draw.getLsbD 3, shifted := draw.getLsbD 4 }.toWord

/-- VOICED: MAXCORR > CORR_THRESH, strictly (41_autocorrelation_engine.md R145). -/
def voicedFlag (maxcorr : Word) : Bool := flt Config.corrThresh maxcorr

/-- INRANGE: FREQ_MIN < FREQ < FREQ_MAX, both strict (41_autocorrelation_engine.md R146). -/
def inRangeFlag (freq : Word) : Bool := flt Config.freqMin freq && flt freq Config.freqMax

/-- SHIFTED: |RATIO - 1| > DEAD_ZONE, strictly (43_resampler.md R182). -/
def shiftedFlag (ratio : Word) : Bool := flt Config.deadZone (fabs (fsub ratio oneF))

/-- Some source of the interrupt is set (60_exceptions.md R246). -/
def Status.anySource (s : Status) : Bool :=
  s.done || s.errIllegal || s.errBusy || s.errOperand || s.errAccess

/-- The interrupt output, a level (10_state.md R53). -/
def Block.irq (b : Block) : Bool := b.ctrl.irqEn && b.status.anySource

end Sys2Proof.Machine
end

