-- ==== Sys2Proof/Machine/Operands.lean ====
section
/-! DEFINITION. Where operands stand: the register map (10_state.md R33), reads of it, and the commands' operand checks. -/

namespace Sys2Proof.Machine

/-- The locations of the register map (10_state.md R33). -/
inductive Loc where
  | id
  | ctrl
  | cmd
  | status
  | energy
  | maxcorr
  | bestlag
  | freq
  | noteidx
  | target
  | ratio
  | sampleRate
  | frameSize
  | lagLimit
  | corrThresh
  | freqMin
  | freqMax
  | deadZone
  | scaleCount
  | scale (k : Fin Config.scaleCount)
  | inp (i : Fin Config.frameSize)
  | out (i : Fin Config.frameSize)
  | x (i : Fin Config.frameSize)
  | y (i : Fin Config.frameSize)
  deriving DecidableEq, Repr

/-- The location at an aligned offset; none at a reserved one (10_state.md R33, 20_memory.md R83). -/
def locate (a : Offset) : Option Loc :=
  let n := a.toNat
  if n < 0x50 then
    match n with
    | 0x000 => some .id
    | 0x004 => some .ctrl
    | 0x008 => some .cmd
    | 0x00C => some .status
    | 0x010 => some .energy
    | 0x014 => some .maxcorr
    | 0x018 => some .bestlag
    | 0x01C => some .freq
    | 0x020 => some .noteidx
    | 0x024 => some .target
    | 0x028 => some .ratio
    | 0x030 => some .sampleRate
    | 0x034 => some .frameSize
    | 0x038 => some .lagLimit
    | 0x03C => some .corrThresh
    | 0x040 => some .freqMin
    | 0x044 => some .freqMax
    | 0x048 => some .deadZone
    | 0x04C => some .scaleCount
    | _ => none
  else if 0x080 ≤ n ∧ n ≤ 0x0B0 then some (.scale (Fin.ofNat 13 ((n - 0x080) / 4)))
  else if 0x1000 ≤ n ∧ n < 0x2000 then some (.inp (Fin.ofNat 1024 ((n - 0x1000) / 4)))
  else if 0x2000 ≤ n ∧ n < 0x3000 then some (.out (Fin.ofNat 1024 ((n - 0x2000) / 4)))
  else if 0x3000 ≤ n ∧ n < 0x4000 then some (.x (Fin.ofNat 1024 ((n - 0x3000) / 4)))
  else if 0x4000 ≤ n ∧ n < 0x5000 then some (.y (Fin.ofNat 1024 ((n - 0x4000) / 4)))
  else none

/-- The offset of a location (10_state.md R33). -/
def Loc.offset (l : Loc) : Offset :=
  match l with
  | .id => 0x000#16
  | .ctrl => 0x004#16
  | .cmd => 0x008#16
  | .status => 0x00C#16
  | .energy => 0x010#16
  | .maxcorr => 0x014#16
  | .bestlag => 0x018#16
  | .freq => 0x01C#16
  | .noteidx => 0x020#16
  | .target => 0x024#16
  | .ratio => 0x028#16
  | .sampleRate => 0x030#16
  | .frameSize => 0x034#16
  | .lagLimit => 0x038#16
  | .corrThresh => 0x03C#16
  | .freqMin => 0x040#16
  | .freqMax => 0x044#16
  | .deadZone => 0x048#16
  | .scaleCount => 0x04C#16
  | .scale k => BitVec.ofNat 16 (0x080 + 4 * k.val)
  | .inp i => BitVec.ofNat 16 (0x1000 + 4 * i.val)
  | .out i => BitVec.ofNat 16 (0x2000 + 4 * i.val)
  | .x i => BitVec.ofNat 16 (0x3000 + 4 * i.val)
  | .y i => BitVec.ofNat 16 (0x4000 + 4 * i.val)

/-- The word a location holds (10_state.md R34 to R50). -/
def Block.value (b : Block) (l : Loc) : Word :=
  match l with
  | .id => Config.idValue
  | .ctrl => b.ctrl.toWord
  | .cmd => b.cmd
  | .status => b.status.toWord
  | .energy => b.energy
  | .maxcorr => b.maxcorr
  | .bestlag => b.bestlag.zeroExtend 32
  | .freq => b.freq
  | .noteidx => b.noteidx.zeroExtend 32
  | .target => b.target
  | .ratio => b.ratio
  | .sampleRate => BitVec.ofNat 32 Config.sampleRate
  | .frameSize => BitVec.ofNat 32 Config.frameSize
  | .lagLimit => BitVec.ofNat 32 Config.lagLimit
  | .corrThresh => Config.corrThresh
  | .freqMin => Config.freqMin
  | .freqMax => Config.freqMax
  | .deadZone => Config.deadZone
  | .scaleCount => BitVec.ofNat 32 Config.scaleCount
  | .scale k => Config.scale k
  | .inp i => sext16 b.inp[i]
  | .out i => sext16 b.out[i]
  | .x i => b.x[i]
  | .y i => b.y[i]

/-- The result locations, whose reads while busy return a free draw (20_memory.md R86; log 2). STATUS is apart: only its
bits 2 to 4 are free. -/
def Loc.isResult (l : Loc) : Bool :=
  match l with
  | .energy => true
  | .maxcorr => true
  | .bestlag => true
  | .freq => true
  | .noteidx => true
  | .target => true
  | .ratio => true
  | .out _ => true
  | .x _ => true
  | .y _ => true
  | _ => false

/-- The locations guarded against writes while busy (20_memory.md R85). -/
def Loc.isGuarded (l : Loc) : Bool :=
  match l with
  | .cmd => true
  | .freq => true
  | .target => true
  | .ratio => true
  | .inp _ => true
  | .y _ => true
  | _ => false

/-- A write to a location that is not CMD, in a block whose guard lets it pass: RW stores, RO ignores, STATUS clears
(10_state.md R35, R37, R41, R43, R44, R47, R50; 20_memory.md R84). -/
def Block.store (b : Block) (l : Loc) (data : Word) : Block :=
  match l with
  | .ctrl => { b with ctrl := { irqEn := data.getLsbD 0 } }
  | .status => b.acknowledge data
  | .freq => { b with freq := data }
  | .target => { b with target := data }
  | .ratio => { b with ratio := data }
  | .inp i => { b with inp := Frame.put b.inp i (data.extractLsb' 0 16) }
  | .y i => { b with y := Frame.put b.y i data }
  | _ => b

/-- The operand check of QUANTIZE (42_pitch_quantizer.md R162). -/
def quantizeOperandOk (freq : Word) : Bool := isFinite freq

/-- The operand check of RATIO, its quotient included (42_pitch_quantizer.md R166). -/
def ratioOperandOk (target freq : Word) : Bool :=
  isFinite target && isFinite freq && !isZero freq && isFinite (fdiv target freq)

/-- The operand check of SHIFT (43_resampler.md R181). -/
def shiftOperandOk (ratio : Word) : Bool := isFinite ratio && flt zeroF ratio

end Sys2Proof.Machine
end

