-- ==== Sys2Proof/Machine/Bus.lean ====
section
/-! DEFINITION. The host's two bus transactions (20_memory.md R80 to R86), with the checks in the order of 60_exceptions.md R248. -/

namespace Sys2Proof.Machine

/-- The location an access reaches, or none for an access error: another width than 4, a misaligned offset or a reserved
one (20_memory.md R82, R83). -/
def accessLoc (a : Offset) (width : BitVec 3) : Option Loc :=
  if width = 4#3 ∧ a.toNat % 4 = 0 then locate a else none

/-- A write to CMD while BUSY = 0 (40_command_lifecycle.md R120): accepted if legal, ERR_ILLEGAL if not. -/
def Block.issue (b : Block) (w : Word) : Block :=
  match decode w with
  | .ok i => b.accept w i
  | .error _ => b.raiseError .illegal

/-- BusWrite on the block: access error, then busy guard, then illegal word, then effect (60_exceptions.md R248). -/
def Block.busWrite (b : Block) (a : Offset) (width : BitVec 3) (data : Word) : Block :=
  match accessLoc a width with
  | none => b.raiseError .access
  | some l =>
    if b.status.busy && l.isGuarded then b.raiseError .busy
    else if l = .cmd then b.issue data
    else b.store l data

/-- BusWrite as a step of the host. -/
def State.busWrite (s : State) (a : Offset) (width : BitVec 3) (data : Word) : State :=
  { s with block := s.block.busWrite a width data }

/-- A read that returns `v`. -/
def State.returning (s : State) (v : Word) : State := { s with returned := v :: s.returned }

/-- The next free draw, and the state with it taken (log 2). -/
def State.draw (s : State) : Word × State := (Config.busyRead s.draws, { s with draws := s.draws + 1 })

/-- BusRead as a step of the host: 0 and ERR_ACCESS on an access error, a free draw for a result while busy, the value
otherwise (20_memory.md R82, R83, R86, R87). -/
def State.busRead (s : State) (a : Offset) (width : BitVec 3) : State :=
  match accessLoc a width with
  | none => { s with block := s.block.raiseError .access }.returning 0#32
  | some l =>
    if s.block.status.busy then
      if l.isResult then s.draw.2.returning s.draw.1
      else if l = .status then s.draw.2.returning (s.block.status.toBusyWord s.draw.1)
      else s.returning (s.block.value l)
    else s.returning (s.block.value l)

/-- One transaction of the host (30_encoding.md R105). -/
def State.transact (s : State) (t : Transaction) : State :=
  match t with
  | .read a width => s.busRead a width
  | .write a width data => s.busWrite a width data

end Sys2Proof.Machine
end

