-- ==== Sys2Proof/Machine/Clamper.lean ====
section
/-! DEFINITION. The fixed_point_clamper: CONVERT, CLAMP, PASS (44_fixed_point_clamper.md). -/

namespace Sys2Proof.Machine

/-- One sample normalized: rnd32(IN[i] / 32768) (44_fixed_point_clamper.md R200). -/
def convertSample (s : Sample) : Word := rnd32 s.toInt Config.norm

/-- round_half_away(exact(w)) (44_fixed_point_clamper.md R205). -/
def roundHalfAway (w : Word) : Int :=
  let m : Nat := (2 * magUnits w + 2 ^ 149) / 2 ^ 150
  if signBit w then -(m : Int) else (m : Int)

/-- The saturation and rounding of a scaled value (44_fixed_point_clamper.md R205). -/
def clampScaled (s : Word) : Int :=
  if fle Config.sampleMaxF s then Config.sampleMax
  else if fle s Config.sampleMinF then Config.sampleMin
  else roundHalfAway s

/-- clamp16 (44_fixed_point_clamper.md R205). -/
def clamp16 (y : Word) : Sample :=
  if isNaN y then 0#16
  else if isInf y then BitVec.ofInt 16 (if signBit y then Config.sampleMin else Config.sampleMax)
  else BitVec.ofInt 16 (clampScaled (fmul y Config.normF))

/-- body(CONVERT) (44_fixed_point_clamper.md R200). -/
def convertBody (b : Block) : Block := { b with x := Frame.mapAll convertSample b.inp }

/-- body(CLAMP) (44_fixed_point_clamper.md R204). -/
def clampBody (b : Block) : Block := { b with out := Frame.mapAll clamp16 b.y }

/-- body(PASS) (44_fixed_point_clamper.md R208). -/
def passBody (b : Block) : Block := { b with out := b.inp }

/-- CONVERT (44_fixed_point_clamper.md R200). -/
def execConvert (s : State) : Host.Outcome State Fault Refusal := .next (s.finish convertBody)

/-- CLAMP (44_fixed_point_clamper.md R204). -/
def execClamp (s : State) : Host.Outcome State Fault Refusal := .next (s.finish clampBody)

/-- PASS (44_fixed_point_clamper.md R208). -/
def execPass (s : State) : Host.Outcome State Fault Refusal := .next (s.finish passBody)

end Sys2Proof.Machine
end

