-- ==== Sys2Proof/Machine/Autocorrelation.lean ====
section
/-! DEFINITION. The autocorrelation_engine: DETECT (41_autocorrelation_engine.md). -/

namespace Sys2Proof.Machine

/-- A sum of products in ascending order, one fmul and one fadd a term (00_scope.md R13). -/
def sumProducts (acc : Word) (pairs : List (Word × Word)) : Word :=
  match pairs with
  | [] => acc
  | p :: rest => forced (fadd acc (fmul p.1 p.2)) fun a => sumProducts a rest

/-- The pairs (X[i], X[i+L]), i ascending from 0 to N - L - 1 (41_autocorrelation_engine.md R143). -/
def lagPairs (xs : List Word) (lag : Nat) : List (Word × Word) := xs.zip (xs.drop lag)

/-- energy() (41_autocorrelation_engine.md R141): the sum of squares, from +0.0. -/
def energyOf (xs : List Word) : Word := sumProducts zeroF (lagPairs xs 0)

/-- corr(L, E) (41_autocorrelation_engine.md R143). -/
def corrOf (xs : List Word) (energy : Word) (lag : Nat) : Word := fdiv (sumProducts zeroF (lagPairs xs lag)) energy

/-- The running maximum: the greatest correlation so far and the lag it was first reached at. -/
structure Peak where
  best : Word
  lag : Nat
  deriving DecidableEq, Repr

/-- The lags of a list visited in order; the maximum is replaced on strictly greater only (41_autocorrelation_engine.md R144). -/
def Peak.visitAll (p : Peak) (xs : List Word) (energy : Word) (lags : List Nat) : Peak :=
  match lags with
  | [] => p
  | lag :: rest =>
    forced (corrOf xs energy lag) fun r =>
      match flt p.best r with
      | true => Peak.visitAll { best := r, lag := lag } xs energy rest
      | false => p.visitAll xs energy rest

/-- The search over L = 1 .. LAG_LIMIT - 1, from best = +0.0 and lag = 0; none at all for a zero energy
(41_autocorrelation_engine.md R140, R142, R144). -/
def findPeak (xs : List Word) (energy : Word) : Peak :=
  forced energy fun e =>
    if isZero e then { best := zeroF, lag := 0 }
    else Peak.visitAll { best := zeroF, lag := 0 } xs e (List.range' 1 (Config.lagLimit - 1))

/-- The frequency of a lag, SAMPLE_RATE / L (41_autocorrelation_engine.md R145). -/
def lagFrequency (lag : Nat) : Word := fdiv Config.sampleRateF (floatOf lag)

/-- The estimate written for a frame's energy and peak (41_autocorrelation_engine.md R145, R146). -/
def Block.writeEstimate (b : Block) (energy : Word) (p : Peak) : Block :=
  let voiced := voicedFlag p.best
  let f := if voiced then lagFrequency p.lag else zeroF
  { b with
    energy := energy
    maxcorr := p.best
    bestlag := BitVec.ofNat 9 p.lag
    freq := f
    status := { b.status with voiced := voiced, inRange := inRangeFlag f } }

/-- body(DETECT) (41_autocorrelation_engine.md R140). -/
def detectBody (b : Block) : Block :=
  let energy := energyOf b.x.toList
  b.writeEstimate energy (findPeak b.x.toList energy)

/-- DETECT (41_autocorrelation_engine.md R140). -/
def execDetect (s : State) : Host.Outcome State Fault Refusal := .next (s.finish detectBody)

end Sys2Proof.Machine
end

