-- ==== Sys2Proof/Machine/Quantizer.lean ====
section
/-! DEFINITION. The pitch_quantizer: QUANTIZE and RATIO (42_pitch_quantizer.md). -/

namespace Sys2Proof.Machine

/-- |exact(SCALE[k]) - exact(f)| in units of 2^-149, compared unrounded (42_pitch_quantizer.md R161). -/
def scaleDistance (f : Word) (k : Fin Config.scaleCount) : Nat := (exactUnits (Config.scale k) - exactUnits f).natAbs

/-- The linear scan: a later entry replaces the candidate on a strictly smaller distance only (42_pitch_quantizer.md R160). -/
def scanScale (f : Word) (k : Fin Config.scaleCount) (rest : List (Fin Config.scaleCount)) : Fin Config.scaleCount :=
  match rest with
  | [] => k
  | j :: js => scanScale f (if scaleDistance f j < scaleDistance f k then j else k) js

/-- The index of the nearest scale entry, the lower of two equally near (42_pitch_quantizer.md R161). -/
def nearestNote (f : Word) : Fin Config.scaleCount := scanScale f 0 [1, 2, 3, 4, 5, 6, 7, 8, 9, 10, 11, 12]

/-- body(QUANTIZE) (42_pitch_quantizer.md R160, R162). -/
def quantizeBody (b : Block) : Block :=
  if quantizeOperandOk b.freq then
    { b with noteidx := BitVec.ofNat 4 (nearestNote b.freq).val, target := Config.scale (nearestNote b.freq) }
  else b.raiseError .operand

/-- body(RATIO) (42_pitch_quantizer.md R165, R166). -/
def ratioBody (b : Block) : Block :=
  if ratioOperandOk b.target b.freq then { b with ratio := fdiv b.target b.freq } else b.raiseError .operand

/-- QUANTIZE (42_pitch_quantizer.md R160). -/
def execQuantize (s : State) : Host.Outcome State Fault Refusal := .next (s.finish quantizeBody)

/-- RATIO (42_pitch_quantizer.md R165). -/
def execRatio (s : State) : Host.Outcome State Fault Refusal := .next (s.finish ratioBody)

end Sys2Proof.Machine
end

