-- ==== Sys2Proof/Machine/Resampler.lean ====
section
/-! DEFINITION. The linear_interpolation_resampler: SHIFT (43_resampler.md). -/

namespace Sys2Proof.Machine

/-- The position i·r, rounded (43_resampler.md R183). -/
def positionOf (i : Nat) (r : Word) : Word := fmul (floatOf i) r

/-- N - 1 as binary32: 1023.0 (43_resampler.md R183). -/
def lastPosition : Word := 0x447FC000#32

/-- a + fr·(b - a), three roundings (43_resampler.md R183). -/
def blend (a b fr : Word) : Word := fadd a (fmul fr (fsub b a))

/-- The sample at a position below N - 1 (43_resampler.md R183; log 18). -/
def interpolateAt (x : Frame Word) (p : Word) : Word :=
  let i0 := floorNat p
  blend (Frame.clampedAt x i0) (Frame.clampedAt x (i0 + 1)) (fsub p (floatOf i0))

/-- interp(i, r) (43_resampler.md R183). -/
def interp (x : Frame Word) (r : Word) (i : Nat) : Word :=
  let p := positionOf i r
  if fle lastPosition p then Frame.clampedAt x (Config.frameSize - 1) else interpolateAt x p

/-- body(SHIFT) (43_resampler.md R180 to R183). -/
def shiftBody (b : Block) : Block :=
  if shiftOperandOk b.ratio then
    if shiftedFlag b.ratio then
      { b with y := Frame.tabulate (interp b.x b.ratio), status := { b.status with shifted := true } }
    else { b with y := b.x, status := { b.status with shifted := false } }
  else b.raiseError .operand

/-- SHIFT (43_resampler.md R180). -/
def execShift (s : State) : Host.Outcome State Fault Refusal := .next (s.finish shiftBody)

end Sys2Proof.Machine
end

