-- ==== Sys2Proof/Machine/Sequencer.lean ====
section
/-! DEFINITION. The frame sequencer: NOP (40_command_lifecycle.md R125) and PROCESS (45_frame_processor.md). -/

namespace Sys2Proof.Machine

/-- body(NOP): skip (40_command_lifecycle.md R125). -/
def nopBody (b : Block) : Block := b

/-- The registers of a frame not in range (45_frame_processor.md R222). -/
def Block.noNote (b : Block) : Block :=
  { b with
    noteidx := 0xF#4
    target := zeroF
    ratio := oneF
    y := b.x
    status := { b.status with shifted := false } }

/-- Quantize, form the ratio and shift, or nothing of it: PROCESS's one choice (45_frame_processor.md R221). -/
def correctBody (b : Block) : Block :=
  if b.status.inRange then shiftBody (ratioBody (quantizeBody b)) else b.noNote

/-- body(PROCESS) (45_frame_processor.md R221). -/
def processBody (b : Block) : Block := clampBody (correctBody (detectBody (convertBody b)))

/-- NOP (40_command_lifecycle.md R125). -/
def execNop (s : State) : Host.Outcome State Fault Refusal := .next (s.finish nopBody)

/-- PROCESS (45_frame_processor.md R220). -/
def execProcess (s : State) : Host.Outcome State Fault Refusal := .next (s.finish processBody)

end Sys2Proof.Machine
end

