-- ==== Sys2Proof/Machine/Dispatch.lean ====
section
/-! DEFINITION. The dispatch of the pending command to its meaning (40_command_lifecycle.md R121). -/

namespace Sys2Proof.Machine

def exec (i : Instr) (s : State) : Host.Outcome State Fault Refusal :=
  match i with
  | .nop => Sys2Proof.Machine.execNop s
  | .convert => Sys2Proof.Machine.execConvert s
  | .detect => Sys2Proof.Machine.execDetect s
  | .quantize => Sys2Proof.Machine.execQuantize s
  | .ratio => Sys2Proof.Machine.execRatio s
  | .shift => Sys2Proof.Machine.execShift s
  | .clamp => Sys2Proof.Machine.execClamp s
  | .pass => Sys2Proof.Machine.execPass s
  | .process => Sys2Proof.Machine.execProcess s

end Sys2Proof.Machine
end

