-- ==== Sys2Proof/Machine/Step.lean ====
section
/-! DEFINITION. One step of the total order (20_memory.md R90, 40_command_lifecycle.md R121). -/

namespace Sys2Proof.Machine

/-- The engine's turn: the pending command, or nothing enabled (40_command_lifecycle.md R121, 60_exceptions.md R257). -/
def engineTurn (s : State) : Host.Outcome State Fault Refusal :=
  match s.block.pending with
  | none => .next s
  | some i => exec i s

/-- One step: the next event of the agenda, or the engine's turn where it is empty (log 1). -/
def step (s : State) : Host.Outcome State Fault Refusal :=
  match s.agenda with
  | [] => engineTurn s
  | .engine :: rest => engineTurn { s with agenda := rest }
  | .bus t :: rest => .next ({ s with agenda := rest }.transact t)
  | .reset :: rest => .next { s with agenda := rest }.resetBlock

/-- The state whose next step runs the command of a table word: accepted into CMD, pending, and the engine's turn next. A word
the decoder refuses is put on the agenda as the CMD write that ERR_ILLEGAL answers (log 10). -/
def State.withFetchWord (s : State) (nbits w : Nat) : State :=
  match decodeTableWord nbits w with
  | some i => { s with block := s.block.accept (encode i) i, agenda := .engine :: s.agenda }
  | none => { s with agenda := .bus (.write 0x008#16 4#3 (BitVec.ofNat 32 (w % 2 ^ nbits))) :: s.agenda }

end Sys2Proof.Machine
end

