-- ==== Sys2Proof/Machine/Driver.lean ====
section
/-! DEFINITION. The host's programs (30_encoding.md R106, R107) and the host procedure processAudio (45_frame_processor.md R225, R226),
driving the machine through its agenda.

Where the engine's step falls among the host's transactions is left to the caller, as 93_implementation_defined.md U4 leaves it
open: a list of Bools says, transaction by transaction, whether the engine has its turn just before it (log 16). -/

namespace Sys2Proof.Driver

open Sys2Proof.Machine

/-- Where a host program has come: the machine, and the engine's coming turns, one Bool for each coming transaction, true where
the engine has its turn just before it. Past the list's end it has its turn before every one (40_command_lifecycle.md R122,
weak fairness; log 16). -/
structure Run where
  state : State
  turns : List Bool
  deriving DecidableEq, Repr

/-! ## Transactions -/

/-- `WR <offset>, <value>` (30_encoding.md R106). -/
def wr (a : Offset) (v : Word) : Transaction := .write a 4#3 v

/-- `RD <offset>` (30_encoding.md R106). -/
def rd (a : Offset) : Transaction := .read a 4#3

/-- A signed decimal value: its 32-bit two's complement (30_encoding.md R106). -/
def valueOf (n : Int) : Word := BitVec.ofInt 32 n

/-- `f32(<decimal>)` of the decimal n/d (30_encoding.md R106). -/
def f32 (n : Int) (d : Nat) : Word := rnd32 n d

/-- `CMD <MNEMONIC>` (30_encoding.md R107). -/
def issue (i : Instr) : Transaction := wr Loc.cmd.offset (encode i)

/-- The steps of one transaction of the host, the engine's turn before it if it falls there. -/
def events (engineFirst : Bool) (t : Transaction) : List Event := if engineFirst then [.engine, .bus t] else [.bus t]

/-- One transaction of the host, before whatever the agenda holds; none if the machine stopped. -/
def perform (t : Transaction) (r : Run) : Option Run :=
  let es := events (r.turns.headD true) t
  match Sys2Proof.core.run es.length { r.state with agenda := es ++ r.state.agenda } with
  | .next s => some { state := s, turns := r.turns.tail }
  | .fault _ => none
  | .refused _ => none

/-- Transactions of the host in their order (20_memory.md R90). -/
def performAll (ts : List Transaction) (r : Run) : Option Run :=
  match ts with
  | [] => some r
  | t :: rest =>
    match perform t r with
    | some q => performAll rest q
    | none => none

/-! ## Host programs -/

/-- The last word the host has read. -/
def lastRead (r : Run) : Word := r.state.returned.headD 0#32

/-- `WAIT`: STATUS is read until a read has bit 0 clear (30_encoding.md R107). The loop runs along the engine's turns; past their
end the engine has its turn before the read, so that a read which still finds BUSY = 1 will be followed by such reads forever,
and the answer is none. By R122 that is no reachable state. -/
def wait (turns : List Bool) (s : State) : Option Run :=
  match perform (rd Loc.status.offset) { state := s, turns := turns } with
  | none => none
  | some r =>
    if (lastRead r).getLsbD 0 then
      match turns with
      | [] => none
      | _ :: rest => wait rest r.state
    else some r

/-- The indices of a frame in ascending order. -/
def indices : List (Fin Config.frameSize) := List.finRange Config.frameSize

/-- A statement (30_encoding.md R106, R107). -/
def runStmt (st : Stmt) (r : Run) : Option Run :=
  match st with
  | .wr a v => perform (wr a v) r
  | .rd a => perform (rd a) r
  | .rdw a width => perform (.read a width) r
  | .wrw a width v => perform (.write a width v) r
  | .cmd i => perform (issue i) r
  | .wait => wait r.turns r.state
  | .run i =>
    match perform (issue i) r with
    | some q => wait q.turns q.state
    | none => none
  | .fill values => performAll (indices.map fun i => wr (Loc.inp i).offset values[i]) r
  | .filly values => performAll (indices.map fun i => wr (Loc.y i).offset values[i]) r
  | .dump => performAll (indices.map fun i => rd (Loc.out i).offset) r
  | .ack => perform (wr Loc.status.offset 0x00000F02#32) r

/-- A host program (30_encoding.md R106), from a state and with the engine's turns given; none if the machine stopped or a WAIT
found no end. -/
def runProgram (prog : List Stmt) (r : Run) : Option Run :=
  match prog with
  | [] => some r
  | st :: rest =>
    match runStmt st r with
    | some q => runProgram rest q
    | none => none

/-! ## processAudio -/

/-- The words that put samples into IN: zext32 of the sample (45_frame_processor.md R225); past the list's end, zeros, which no
whole frame reaches. -/
def frameWords (samples : List Sample) : Frame Word := Frame.tabulate fun i => (samples.getD i 0#16).zeroExtend 32

/-- One frame of processAudio: fill IN, PROCESS, wait, dump OUT (45_frame_processor.md R225). -/
def frameProgram (samples : List Sample) : List Stmt := [.fill (frameWords samples), .run .process, .dump]

/-- The last `n` words the host has read, oldest first, as samples: bits [15:0] (30_encoding.md R107). -/
def lastSamples (n : Nat) (s : State) : List Sample := ((s.returned.take n).reverse).map fun w => w.extractLsb' 0 16

/-- The whole frames of a buffer, then its tail copied by the host (45_frame_processor.md R225, R226). -/
def processFrames (frames : Nat) (input : List Sample) (r : Run) : Option (List Sample × Run) :=
  match frames with
  | 0 => some (input, r)
  | k + 1 =>
    match runProgram (frameProgram (input.take Config.frameSize)) r with
    | none => none
    | some q =>
      match processFrames k (input.drop Config.frameSize) q with
      | some (rest, last) => some (lastSamples Config.frameSize q.state ++ rest, last)
      | none => none

/-- processAudio(input, L, output), L the input's length: output[0..L) is written and the rest of a longer output left
(45_frame_processor.md R225). -/
def processAudio (input output : List Sample) (r : Run) : Option (List Sample × Run) :=
  match processFrames (input.length / Config.frameSize) input r with
  | some (written, last) => some (written ++ output.drop input.length, last)
  | none => none

/-- The tail by PASS (45_frame_processor.md R226): IN[0..t), PASS, wait, OUT[0..t). -/
def passTail (tail : List Sample) (r : Run) : Option (List Sample × Run) :=
  let places := indices.take tail.length
  match performAll (places.map fun i => wr (Loc.inp i).offset ((tail.getD i 0#16).zeroExtend 32)) r with
  | none => none
  | some q =>
    match runStmt (.run .pass) q with
    | none => none
    | some p =>
      match performAll (places.map fun i => rd (Loc.out i).offset) p with
      | some last => some (lastSamples tail.length last.state, last)
      | none => none

end Sys2Proof.Driver
end

