-- ==== Sys2Proof/Safety.lean ====
section
/-! DEFINITION. What holds of every reachable state (10_state.md R54) and what a clean run is. -/

namespace Sys2Proof.Machine

/-- X[i] is k/32768 of an int16 k, and not -0 (10_state.md R54 item 4, 44_fixed_point_clamper.md R201): in units of
2^-149, k times 2^134. -/
abbrev NormalizedSample (w : Word) : Prop :=
  isFinite w = true ∧ w ≠ 0x80000000#32 ∧ ∃ k : Int, -32768 ≤ k ∧ k ≤ 32767 ∧ exactUnits w = k * 2 ^ 134

/-- Every element of a frame is a normalized sample. -/
abbrev NormalizedFrame (x : Frame Word) : Prop := ∀ (i : Nat) (h : i < Config.frameSize), NormalizedSample x[i]

/-- The invariants of 10_state.md R54. Those of R54 that the types already say (BESTLAG ≤ 511, IN and OUT in int16) are not
repeated. -/
structure Block.Inv (b : Block) : Prop where
  busy_iff_pending : b.status.busy = b.pending.isSome
  pending_is_cmd : ∀ i, b.pending = some i → b.cmd = encode i
  busy_not_done : b.status.busy = true → b.status.done = false
  noteidx_legal : b.noteidx.toNat ≤ 12 ∨ b.noteidx.toNat = 15
  x_normalized : NormalizedFrame b.x
  cmd_legal : CommandWord.WellFormed b.cmd

/-- The invariant of a state is that of its block. -/
abbrev State.Inv (s : State) : Prop := s.block.Inv

/-- No error bit is set: the host has misused nothing since they were last cleared (60_exceptions.md R245). -/
def Status.noError (s : Status) : Bool := !(s.errIllegal || s.errBusy || s.errOperand || s.errAccess)

/-- A safe step: it answers a next state that keeps the invariant. -/
def SafeStep (s : State) : Prop := ∃ t, step s = .next t ∧ t.Inv

end Sys2Proof.Machine
end

