-- ==== Sys2Proof/Certificates/Slice0/Obligations.lean ====
section
/-! DEFINITION. The statements for the provers, each from the numbered rules of spec/. -/

namespace Sys2Proof.Spec

open Sys2Proof.Machine

/-! ## The spec's own words, apart from the machine's functions -/

/-- The biased exponent e = w[30:23] (00_scope.md R10). -/
def expOf (w : Word) : Nat := w.toNat / 2 ^ 23 % 256

/-- The fraction f = w[22:0] (00_scope.md R10). -/
def fracOf (w : Word) : Nat := w.toNat % 2 ^ 23

/-- finite(w): neither an infinity nor a NaN (00_scope.md R10). -/
def FiniteDatum (w : Word) : Prop := expOf w ≠ 255

/-- NaN (00_scope.md R10). -/
def NaNDatum (w : Word) : Prop := expOf w = 255 ∧ fracOf w ≠ 0

/-- The real value of a finite pattern, by the formula of 00_scope.md R10. -/
def val32 (w : Word) : ℚ :=
  (if w.msb then -1 else 1) *
    (if expOf w = 0 then (fracOf w : ℚ) / 2 ^ 23 * (2 : ℚ) ^ (-126 : ℤ)
     else (1 + (fracOf w : ℚ) / 2 ^ 23) * (2 : ℚ) ^ ((expOf w : ℤ) - 127))

/-- w = rnd32(v): the nearest datum, a tie to the even fraction, infinity from 2^128 - 2^103 on (00_scope.md R11). -/
def IsRnd32 (v : ℚ) (w : Word) : Prop :=
  ((2 : ℚ) ^ 128 - 2 ^ 103 ≤ v → w = 0x7F800000#32) ∧
  (v ≤ -((2 : ℚ) ^ 128 - 2 ^ 103) → w = 0xFF800000#32) ∧
  (|v| < (2 : ℚ) ^ 128 - 2 ^ 103 →
    FiniteDatum w ∧ (∀ d, FiniteDatum d → |val32 w - v| ≤ |val32 d - v|) ∧
      (∀ d, FiniteDatum d → val32 d ≠ val32 w → |val32 d - v| = |val32 w - v| → fracOf w % 2 = 0))

/-- Element i of a frame, by an index the rules use. -/
def elem (x : Frame Word) (i : Nat) : Word := x.toList.getD i 0#32

/-- energy(): the loop of 41_autocorrelation_engine.md R141. -/
def energy (x : Frame Word) : Word := (List.range 1024).foldl (fun e i => fadd e (fmul (elem x i) (elem x i))) 0#32

/-- corr(L, E): the loop of 41_autocorrelation_engine.md R143. -/
def corr (x : Frame Word) (e : Word) (lag : Nat) : Word :=
  fdiv ((List.range (1024 - lag)).foldl (fun a i => fadd a (fmul (elem x i) (elem x (i + lag)))) 0#32) e

/-- The lag loop of 41_autocorrelation_engine.md R140: (best, lag) after L = 1 .. 511. -/
def search (x : Frame Word) (e : Word) : Word × Nat :=
  (List.range' 1 511).foldl (fun p lag => if flt p.1 (corr x e lag) then (corr x e lag, lag) else p) (0#32, 0)

/-- The value is +0 or -0 (00_scope.md R12). -/
def ZeroDatum (w : Word) : Prop := w = 0x00000000#32 ∨ w = 0x80000000#32

/-- STATUS after the completion of a command (40_command_lifecycle.md R121). -/
def completed (st : Status) : Status := { st with busy := false, done := true }

/-- The block after a command that failed its operand check: the error bit and the completion (60_exceptions.md R243). -/
def operandError (b : Block) : Block :=
  { b with status := { b.status with busy := false, done := true, errOperand := true }, pending := none }

/-- round_half_away (44_fixed_point_clamper.md R205), on reals. -/
def roundHalfAway (v : ℚ) : Int := (if v < 0 then -1 else 1) * ⌊|v| + 1 / 2⌋

/-- The word is illegal (30_encoding.md R102). -/
def IllegalWord (w : Word) : Prop := w.extractLsb' 8 24 ≠ 0#24 ∨ 0x08 < (w.extractLsb' 0 8).toNat

/-- The offset is one 20_memory.md R83 lists as reserved. -/
def Reserved (a : Offset) : Prop :=
  a = 0x02C#16 ∨ (0x050 ≤ a.toNat ∧ a.toNat ≤ 0x07F) ∨ (0x0B4 ≤ a.toNat ∧ a.toNat ≤ 0x0FFF) ∨ 0x5000 ≤ a.toNat

/-- The offset is one of a guarded location (20_memory.md R85). -/
def Guarded (a : Offset) : Prop :=
  a = 0x008#16 ∨ a = 0x01C#16 ∨ a = 0x024#16 ∨ a = 0x028#16 ∨ (0x1000 ≤ a.toNat ∧ a.toNat ≤ 0x1FFF) ∨
    (0x4000 ≤ a.toNat ∧ a.toNat ≤ 0x4FFF)

/-- The offset is one of a read-only register (20_memory.md R84). -/
def ReadOnly (a : Offset) : Prop :=
  a = 0x000#16 ∨ a = 0x010#16 ∨ a = 0x014#16 ∨ a = 0x018#16 ∨ a = 0x020#16 ∨ (0x030 ≤ a.toNat ∧ a.toNat ≤ 0x04F) ∨
    (0x080 ≤ a.toNat ∧ a.toNat ≤ 0x0B3) ∨ (0x2000 ≤ a.toNat ∧ a.toNat ≤ 0x3FFF)

/-- An access 20_memory.md R82 or R83 makes an access error. -/
def BadAccess (a : Offset) (width : BitVec 3) : Prop := width ≠ 4#3 ∨ a.toNat % 4 ≠ 0 ∨ Reserved a

/-- All six items of 10_state.md R54, those the types say included. -/
def Reachable (b : Block) : Prop :=
  ((b.status.busy = true ↔ b.pending ≠ none) ∧ ∀ i, b.pending = some i → i.opcode = (b.cmd.extractLsb' 0 8).toNat) ∧
  (b.status.busy = true → b.status.done = false) ∧
  (b.bestlag.toNat ≤ 511 ∧ (b.noteidx.toNat ≤ 12 ∨ b.noteidx.toNat = 15)) ∧
  (∀ (i : Nat) (h : i < 1024), NormalizedSample b.x[i] ∧ FiniteDatum b.x[i] ∧ |val32 b.x[i]| ≤ 1) ∧
  (∀ (i : Nat) (h : i < 1024), (-32768 ≤ b.inp[i].toInt ∧ b.inp[i].toInt ≤ 32767) ∧
    (-32768 ≤ b.out[i].toInt ∧ b.out[i].toInt ≤ 32767)) ∧
  (b.cmd.extractLsb' 8 24 = 0#24 ∧ (b.cmd.extractLsb' 0 8).toNat ≤ 0x08)

end Sys2Proof.Spec

section

open Sys2Proof Sys2Proof.Machine Sys2Proof.Spec Sys2Proof.Driver

/-! ## Encoding -/

/-- The nine words of the opcode map (30_encoding.md R101). -/
def Obligations.OpcodeMapWordsDecode : Prop :=
  decode 0x00000000#32 = .ok .nop ∧ decode 0x00000001#32 = .ok .convert ∧ decode 0x00000002#32 = .ok .detect ∧
  decode 0x00000003#32 = .ok .quantize ∧ decode 0x00000004#32 = .ok .ratio ∧ decode 0x00000005#32 = .ok .shift ∧
  decode 0x00000006#32 = .ok .clamp ∧ decode 0x00000007#32 = .ok .pass ∧ decode 0x00000008#32 = .ok .process

/-- Decode and encode agree in both directions, on every word. -/
def Obligations.DecodeIffEncode : Prop :=
  ∀ (w : Word) (i : Instr), decode w = .ok i ↔ w = encode i

/-- The register map: every location stands at the offset of R33's table, written here as numbers; the map and its inverse
agree; the aligned offsets with no location are the reserved ones (10_state.md R33). -/
def Obligations.RegisterMapRoundTrips : Prop :=
  (∀ l : Loc, l.offset.toNat % 4 = 0 ∧ locate l.offset = some l) ∧
  (∀ (a : Offset) (l : Loc), a.toNat % 4 = 0 → (locate a = some l ↔ a = l.offset)) ∧
  (∀ a : Offset, a.toNat % 4 = 0 → (locate a = none ↔ Reserved a)) ∧
  (Loc.id.offset = 0x000#16 ∧ Loc.ctrl.offset = 0x004#16 ∧ Loc.cmd.offset = 0x008#16 ∧ Loc.status.offset = 0x00C#16 ∧
    Loc.energy.offset = 0x010#16 ∧ Loc.maxcorr.offset = 0x014#16 ∧ Loc.bestlag.offset = 0x018#16 ∧
    Loc.freq.offset = 0x01C#16 ∧ Loc.noteidx.offset = 0x020#16 ∧ Loc.target.offset = 0x024#16 ∧
    Loc.ratio.offset = 0x028#16 ∧ Loc.sampleRate.offset = 0x030#16 ∧ Loc.frameSize.offset = 0x034#16 ∧
    Loc.lagLimit.offset = 0x038#16 ∧ Loc.corrThresh.offset = 0x03C#16 ∧ Loc.freqMin.offset = 0x040#16 ∧
    Loc.freqMax.offset = 0x044#16 ∧ Loc.deadZone.offset = 0x048#16 ∧ Loc.scaleCount.offset = 0x04C#16) ∧
  (∀ k : Fin 13, (Loc.scale k).offset.toNat = 0x080 + 4 * k.val) ∧
  ∀ i : Fin 1024, (Loc.inp i).offset.toNat = 0x1000 + 4 * i.val ∧ (Loc.out i).offset.toNat = 0x2000 + 4 * i.val ∧
    (Loc.x i).offset.toNat = 0x3000 + 4 * i.val ∧ (Loc.y i).offset.toNat = 0x4000 + 4 * i.val

/-- Byte lanes are little-endian: lane j carries bits [8j+7:8j], and the four lanes make the word again (20_memory.md R81). -/
def Obligations.ByteLanesAreLittleEndian : Prop :=
  ∀ w : Word, (∀ (j : Fin 4) (k : Nat), k < 8 → (laneByte w j).getLsbD k = w.getLsbD (8 * j.val + k)) ∧
    decodeBytes [laneByte w 0, laneByte w 1, laneByte w 2, laneByte w 3] = decode w

/-- Platform addresses and offsets agree in their low 16 bits (20_memory.md R88). -/
def Obligations.PlatformAddressesAgreeWithOffsets : Prop :=
  ∀ (addr : Nat) (a : Offset), platformOffset addr = some a ↔ (addr = Config.coreBase + a.toNat ∧ addr % 65536 = a.toNat)

/-! ## Reset and invariants -/

/-- Reset gives this state whatever was before, pending commands included (70_reset_and_hazards.md R271, R270). -/
def Obligations.ResetFromAnyState : Prop :=
  ∀ (s : State) (rest : List Event), s.agenda = .reset :: rest →
    ∃ t, step s = .next t ∧ t.agenda = rest ∧ t.block = State.reset.block ∧
      t.block.ctrl.toWord = 0#32 ∧ t.block.cmd = 0#32 ∧ t.block.status.toWord = 0#32 ∧ t.block.energy = 0#32 ∧
      t.block.maxcorr = 0#32 ∧ t.block.bestlag = 0#9 ∧ t.block.freq = 0#32 ∧ t.block.noteidx = 0xF#4 ∧ t.block.target = 0#32 ∧
      t.block.ratio = 0x3F800000#32 ∧ t.block.pending = none ∧ t.block.irq = false ∧
      ∀ (i : Nat) (h : i < 1024),
        t.block.inp[i] = 0#16 ∧ t.block.out[i] = 0#16 ∧ t.block.x[i] = 0#32 ∧ t.block.y[i] = 0#32

/-- The reset state is the one PROCESS leaves on an all-zero IN, apart from CMD and DONE (70_reset_and_hazards.md R270). -/
def Obligations.SilentProcessLeavesResetState : Prop :=
  exec .process (State.reset.withFetchWord 32 8) =
    .next { State.reset with
      block := { Block.reset with cmd := 0x00000008#32, status := { Status.reset with done := true } }
      agenda := [.engine] }

/-- The invariants hold at reset (10_state.md R54, 70_reset_and_hazards.md R270). -/
def Obligations.InvariantsHoldAtReset : Prop := Reachable State.reset.block ∧ State.reset.Inv

/-- Every step keeps the invariants of 10_state.md R54, and none stops. -/
def Obligations.EveryStepKeepsTheInvariants : Prop :=
  ∀ s : State, Reachable s.block → ∃ t, step s = .next t ∧ Reachable t.block

/-- No error, command or access stops the machine (60_exceptions.md R240, 40_command_lifecycle.md R122). -/
def Obligations.MachineNeverStops : Prop := ∀ s : State, ∃ t, step s = .next t

/-! ## The command lifecycle -/

/-- The engine's step is the pending command's execution, and completes it (40_command_lifecycle.md R121). -/
def Obligations.EngineStepRunsThePendingCommand : Prop :=
  ∀ (s : State) (i : Instr), s.block.pending = some i →
    (s.agenda = [] → step s = exec i s) ∧
    (∀ rest, s.agenda = .engine :: rest → step s = exec i { s with agenda := rest }) ∧
    (∃ t, exec i s = .next t ∧ t.block.pending = none ∧ t.block.status.busy = false ∧ t.block.status.done = true)

/-- A legal word written to CMD while idle is what the next engine step decodes and runs. -/
def Obligations.AcceptedWordRunsAsItsCommand : Prop :=
  ∀ (s : State) (w : Word) (i : Instr) (rest : List Event), decode w = .ok i → s.block.status.busy = false →
    s.agenda = .bus (.write 0x008#16 4#3 w) :: .engine :: rest →
      ∃ t, step s = .next t ∧ t.block.cmd = w ∧ t.block.pending = some i ∧ step t = exec i { t with agenda := rest }

/-- The state with a table word in place runs that word's command at its next step (log 10). -/
def Obligations.FetchWordRunsItsCommand : Prop :=
  ∀ (s : State) (w : Word) (i : Instr), decode w = .ok i →
    step (s.withFetchWord 32 w.toNat) =
      exec i { s with block := { s.block with
        cmd := w, status := { s.block.status with busy := true, done := false }, pending := some i } }

/-- The three outcomes of a CMD write, and all they change (40_command_lifecycle.md R120). -/
def Obligations.CommandWriteIsAcceptedOrRefused : Prop :=
  ∀ (s : State) (w : Word) (rest : List Event), s.agenda = .bus (.write 0x008#16 4#3 w) :: rest →
    (s.block.status.busy = true →
      step s = .next { s with
        agenda := rest, block := { s.block with status := { s.block.status with errBusy := true } } }) ∧
    (s.block.status.busy = false → IllegalWord w →
      step s = .next { s with
        agenda := rest, block := { s.block with status := { s.block.status with errIllegal := true } } }) ∧
    (s.block.status.busy = false → ¬ IllegalWord w →
      ∃ i : Instr, i.opcode = (w.extractLsb' 0 8).toNat ∧
        step s = .next { s with
          agenda := rest
          block := { s.block with
            cmd := w, status := { s.block.status with busy := true, done := false }, pending := some i } })

/-- Progress: a pending command is completed, or discarded by a reset, once the scheduled events are through (R122). -/
def Obligations.PendingCommandEventuallyCompletes : Prop :=
  ∀ s : State, ∃ (k : Nat) (t : State), k ≤ s.agenda.length + 1 ∧ Sys2Proof.core.run k s = .next t ∧ t.block.pending = none

/-- An idle engine changes nothing (60_exceptions.md R257). -/
def Obligations.IdleEngineKeepsAllState : Prop :=
  ∀ s : State, s.block.pending = none →
    (s.agenda = [] → step s = .next s) ∧
    (∀ rest, s.agenda = .engine :: rest → step s = .next { s with agenda := rest })

/-- While a command is pending, no transaction changes what it reads, the command word or the command (20_memory.md R91). -/
def Obligations.InputsAreFixedWhilePending : Prop :=
  ∀ (s : State) (tr : Transaction) (rest : List Event), s.block.status.busy = true → s.agenda = .bus tr :: rest →
    ∃ t, step s = .next t ∧ t.block.inp = s.block.inp ∧ t.block.x = s.block.x ∧ t.block.y = s.block.y ∧
      t.block.freq = s.block.freq ∧ t.block.target = s.block.target ∧ t.block.ratio = s.block.ratio ∧
      t.block.cmd = s.block.cmd ∧ t.block.pending = s.block.pending ∧ t.block.status.busy = true

/-- The frame every command shares: what no command writes (40_command_lifecycle.md R124, 10_state.md R47). -/
def Obligations.CommandsLeaveHostStateAlone : Prop :=
  ∀ (i : Instr) (s : State), ∃ t, exec i s = .next t ∧ t.agenda = s.agenda ∧ t.returned = s.returned ∧ t.draws = s.draws ∧
    t.block.ctrl = s.block.ctrl ∧ t.block.cmd = s.block.cmd ∧ t.block.inp = s.block.inp ∧
    t.block.status.errIllegal = s.block.status.errIllegal ∧ t.block.status.errBusy = s.block.status.errBusy ∧
    t.block.status.errAccess = s.block.status.errAccess ∧
    (s.block.status.errOperand = true → t.block.status.errOperand = true) ∧
    (i ≠ .quantize → i ≠ .ratio → i ≠ .shift → t.block.status.errOperand = s.block.status.errOperand)

/-- Which command writes which flag, and with what (10_state.md R51). -/
def Obligations.FlagsReportTheirCommands : Prop :=
  (∀ (i : Instr) (s t : State), exec i s = .next t →
    (i = .detect ∨ i = .process →
      t.block.status.voiced = flt Config.corrThresh t.block.maxcorr ∧
      t.block.status.inRange = (flt Config.freqMin t.block.freq && flt t.block.freq Config.freqMax)) ∧
    (i ≠ .detect → i ≠ .process →
      t.block.status.voiced = s.block.status.voiced ∧ t.block.status.inRange = s.block.status.inRange) ∧
    (i = .process →
      t.block.status.shifted =
        (t.block.status.inRange && flt Config.deadZone (fabs (fsub t.block.ratio 0x3F800000#32)))) ∧
    (i = .shift → FiniteDatum s.block.ratio → 0 < val32 s.block.ratio →
      t.block.status.shifted = flt Config.deadZone (fabs (fsub s.block.ratio 0x3F800000#32))) ∧
    (i = .shift → ¬ FiniteDatum s.block.ratio ∨ val32 s.block.ratio ≤ 0 →
      t.block.status.shifted = s.block.status.shifted) ∧
    (i ≠ .shift → i ≠ .process → t.block.status.shifted = s.block.status.shifted) ∧
    (s.block.status.errOperand = false → t.block.status.errOperand = true →
      t.block.status.voiced = s.block.status.voiced ∧ t.block.status.inRange = s.block.status.inRange ∧
      t.block.status.shifted = s.block.status.shifted)) ∧
  State.reset.block.status.voiced = false ∧ State.reset.block.status.inRange = false ∧
  State.reset.block.status.shifted = false

/-- No command reads a flag: other flags before it change nothing after it but flags (10_state.md R51). -/
def Obligations.FlagsAreNoInputs : Prop :=
  ∀ (i : Instr) (s : State) (v r h : Bool), ∃ t t', exec i s = .next t ∧
    exec i { s with block := { s.block with
      status := { s.block.status with voiced := v, inRange := r, shifted := h } } } = .next t' ∧
    t = { t' with block := { t'.block with
      status := { t'.block.status with
        voiced := t.block.status.voiced, inRange := t.block.status.inRange, shifted := t.block.status.shifted } } }

/-! ## NOP, CONVERT, CLAMP, PASS -/

/-- NOP writes BUSY, DONE and nothing else, and raises irq when it is enabled (40_command_lifecycle.md R125). -/
def Obligations.NopOnlyCompletes : Prop :=
  ∀ s : State, ∃ t, exec .nop s = .next t ∧
    t = { s with block := { s.block with status := completed s.block.status, pending := none } } ∧
    t.block.irq = s.block.ctrl.irqEn

/-- CONVERT: X[i] = IN[i]/32768 exactly, a normal number or +0, and nothing else (44_fixed_point_clamper.md R200, R201). -/
def Obligations.ConvertIsExact : Prop :=
  ∀ s : State, ∃ x : Frame Word,
    exec .convert s = .next { s with block := { s.block with x := x, status := completed s.block.status, pending := none } } ∧
    ∀ (i : Nat) (h : i < 1024),
      FiniteDatum x[i] ∧ val32 x[i] = (s.block.inp[i].toInt : ℚ) / 32768 ∧
        (if s.block.inp[i] = 0#16 then x[i] = 0x00000000#32 else expOf x[i] ≠ 0)

/-- CLAMP: NaN to 0, saturation at both ends, half away from zero between (44_fixed_point_clamper.md R204, R205). -/
def Obligations.ClampSaturatesAndRounds : Prop :=
  ∀ s : State, ∃ out : Frame Sample,
    exec .clamp s = .next { s with block := { s.block with out := out, status := completed s.block.status, pending := none } } ∧
    ∀ (i : Nat) (h : i < 1024),
      (NaNDatum s.block.y[i] → out[i].toInt = 0) ∧
      (s.block.y[i] = 0x7F800000#32 → out[i].toInt = 32767) ∧
      (s.block.y[i] = 0xFF800000#32 → out[i].toInt = -32768) ∧
      (FiniteDatum s.block.y[i] →
        out[i].toInt =
          if 32767 ≤ val32 s.block.y[i] * 32768 then 32767
          else if val32 s.block.y[i] * 32768 ≤ -32768 then -32768
          else Spec.roundHalfAway (val32 s.block.y[i] * 32768))

/-- CONVERT, a copy of X into Y, CLAMP: OUT is IN bit for bit (44_fixed_point_clamper.md R206). -/
def Obligations.ConvertThenClampIsIdentity : Prop :=
  ∀ s : State, ∃ t u, exec .convert s = .next t ∧
    exec .clamp { t with block := { t.block with y := t.block.x } } = .next u ∧ u.block.out = s.block.inp

/-- PASS copies IN to OUT and changes nothing else (44_fixed_point_clamper.md R208). -/
def Obligations.PassCopiesInToOut : Prop :=
  ∀ s : State,
    exec .pass s = .next { s with
      block := { s.block with out := s.block.inp, status := completed s.block.status, pending := none } }

/-! ## DETECT -/

/-- DETECT is the energy loop, the lag loop and the estimate, and writes nothing else (41_autocorrelation_engine.md R140). -/
def Obligations.DetectRunsTheLagSearch : Prop :=
  ∀ s : State, ∃ best f : Word, ∃ lag : Nat,
    (ZeroDatum (energy s.block.x) → best = 0#32 ∧ lag = 0) ∧
    (¬ ZeroDatum (energy s.block.x) → (best, lag) = search s.block.x (energy s.block.x)) ∧
    f = (if flt 0x3F000000#32 best then fdiv 0x472C4400#32 (floatOf lag) else 0#32) ∧
    exec .detect s = .next { s with
      block := { s.block with
        energy := energy s.block.x
        maxcorr := best
        bestlag := BitVec.ofNat 9 lag
        freq := f
        status := { completed s.block.status with
          voiced := flt 0x3F000000#32 best, inRange := flt 0x42480000#32 f && flt f 0x44FA0000#32 }
        pending := none } }

/-- MAXCORR is the greatest correlation and BESTLAG the first lag that reaches it, if any is positive
(41_autocorrelation_engine.md R144). -/
def Obligations.PeakIsTheFirstGreatestCorrelation : Prop :=
  ∀ s : State, NormalizedFrame s.block.x → ∃ t, exec .detect s = .next t ∧
    let r := corr s.block.x (energy s.block.x)
    ((¬ ZeroDatum (energy s.block.x) ∧ ∃ lag, 1 ≤ lag ∧ lag ≤ 511 ∧ 0 < val32 (r lag)) →
      1 ≤ t.block.bestlag.toNat ∧ t.block.maxcorr = r t.block.bestlag.toNat ∧
      (∀ lag, 1 ≤ lag → lag ≤ 511 → val32 (r lag) ≤ val32 t.block.maxcorr) ∧
      (∀ lag, 1 ≤ lag → lag < t.block.bestlag.toNat → val32 (r lag) < val32 t.block.maxcorr)) ∧
    ((ZeroDatum (energy s.block.x) ∨ ∀ lag, 1 ≤ lag → lag ≤ 511 → val32 (r lag) ≤ 0) →
      t.block.bestlag = 0#9 ∧ t.block.maxcorr = 0#32)

/-- Voiced exactly above 0.5; the frequency is 44100 over the lag, or +0; the range flag is strict on both sides
(41_autocorrelation_engine.md R145, R146). -/
def Obligations.VoicingAndFrequency : Prop :=
  ∀ s : State, ∃ t, exec .detect s = .next t ∧
    t.block.status.voiced = flt 0x3F000000#32 t.block.maxcorr ∧
    (t.block.status.voiced = true →
      1 ≤ t.block.bestlag.toNat ∧ t.block.freq = fdiv 0x472C4400#32 (floatOf t.block.bestlag.toNat)) ∧
    (t.block.status.voiced = false → t.block.freq = 0#32) ∧
    t.block.status.inRange = (flt 0x42480000#32 t.block.freq && flt t.block.freq 0x44FA0000#32) ∧
    (t.block.maxcorr = 0x3F000000#32 → t.block.status.voiced = false) ∧
    (t.block.bestlag = 0#9 → t.block.status.voiced = false) ∧
    (t.block.status.voiced = false → t.block.status.inRange = false)

/-- In range exactly when voiced with BESTLAG ≥ 23 (41_autocorrelation_engine.md R147). -/
def Obligations.InRangeExactlyFromLag23 : Prop :=
  ∀ s : State, ∃ t, exec .detect s = .next t ∧
    t.block.status.inRange = (t.block.status.voiced && decide (23 ≤ t.block.bestlag.toNat))

/-- The energy of a normalized frame is finite, at most 1024 and never negative (41_autocorrelation_engine.md R141). -/
def Obligations.EnergyIsBounded : Prop :=
  ∀ s : State, NormalizedFrame s.block.x → ∃ t, exec .detect s = .next t ∧ t.block.energy = energy s.block.x ∧
    FiniteDatum t.block.energy ∧ 0 ≤ val32 t.block.energy ∧ val32 t.block.energy ≤ 1024

/-- The energy is 0 exactly for the all-zero frame, which is unvoiced with frequency 0 (41_autocorrelation_engine.md R142). -/
def Obligations.SilentFrameIsUnvoiced : Prop :=
  ∀ s : State, NormalizedFrame s.block.x → ∃ t, exec .detect s = .next t ∧
    (ZeroDatum t.block.energy ↔ ∀ (i : Nat) (h : i < 1024), s.block.x[i] = 0#32) ∧
    (ZeroDatum t.block.energy →
      t.block.maxcorr = 0#32 ∧ t.block.bestlag = 0#9 ∧ t.block.freq = 0#32 ∧ t.block.status.voiced = false)

/-! ## QUANTIZE and RATIO -/

/-- QUANTIZE on a finite FREQ: the nearest scale entry in exact distance, the lower of two, and nothing else
(42_pitch_quantizer.md R160). On another FREQ: ERR_OPERAND. -/
def Obligations.QuantizePicksTheNearestNote : Prop :=
  ∀ s : State,
    (FiniteDatum s.block.freq → ∃ k : Fin 13,
      (∀ j : Fin 13, |val32 (Config.scale k) - val32 s.block.freq| ≤ |val32 (Config.scale j) - val32 s.block.freq|) ∧
      (∀ j : Fin 13, j < k → |val32 (Config.scale k) - val32 s.block.freq| < |val32 (Config.scale j) - val32 s.block.freq|) ∧
      exec .quantize s = .next { s with
        block := { s.block with
          noteidx := BitVec.ofNat 4 k.val
          target := Config.scale k
          status := completed s.block.status
          pending := none } }) ∧
    (¬ FiniteDatum s.block.freq → exec .quantize s = .next { s with block := operandError s.block })

/-- The selection by exact midpoints (42_pitch_quantizer.md R163): k is selected exactly between its two midpoints. -/
def Obligations.QuantizeByMidpoints : Prop :=
  ∀ s : State, FiniteDatum s.block.freq → ∃ t, exec .quantize s = .next t ∧
    ∀ k : Fin 13, t.block.noteidx.toNat = k.val ↔
      (∀ j : Fin 13, j.val + 1 = k.val → (val32 (Config.scale j) + val32 (Config.scale k)) / 2 < val32 s.block.freq) ∧
      (∀ j : Fin 13, k.val + 1 = j.val → val32 s.block.freq ≤ (val32 (Config.scale k) + val32 (Config.scale j)) / 2)

/-- RATIO: the rounded quotient TARGET/FREQ where it is formed and finite, ERR_OPERAND elsewhere
(42_pitch_quantizer.md R165, R166). -/
def Obligations.RatioDividesOrRaises : Prop :=
  ∀ s : State,
    (FiniteDatum s.block.target → FiniteDatum s.block.freq → ¬ ZeroDatum s.block.freq →
      ∃ q, IsRnd32 (val32 s.block.target / val32 s.block.freq) q ∧
        (ZeroDatum q → q.msb = (s.block.target.msb ^^ s.block.freq.msb)) ∧
        (FiniteDatum q → exec .ratio s = .next { s with
          block := { s.block with ratio := q, status := completed s.block.status, pending := none } }) ∧
        (¬ FiniteDatum q → exec .ratio s = .next { s with block := operandError s.block })) ∧
    (¬ FiniteDatum s.block.target ∨ ¬ FiniteDatum s.block.freq ∨ ZeroDatum s.block.freq →
      exec .ratio s = .next { s with block := operandError s.block })

/-! ## SHIFT -/

/-- SHIFT refuses a RATIO that is not finite or not positive (43_resampler.md R181). -/
def Obligations.ShiftRefusesUnusableRatio : Prop :=
  ∀ s : State, (¬ FiniteDatum s.block.ratio ∨ val32 s.block.ratio ≤ 0) →
    exec .shift s = .next { s with block := operandError s.block }

/-- The dead zone decides as the real |r - 1| ≤ 0.01 does, for every binary32 r (43_resampler.md R182); in it, Y is X. -/
def Obligations.DeadZoneDecidesAsTheReals : Prop :=
  (∀ s : State, FiniteDatum s.block.ratio → 0 < val32 s.block.ratio →
    (|val32 s.block.ratio - 1| ≤ 1 / 100 →
      exec .shift s = .next { s with
        block := { s.block with
          y := s.block.x, status := { completed s.block.status with shifted := false }, pending := none } }) ∧
    (1 / 100 < |val32 s.block.ratio - 1| →
      ∃ y : Frame Word, exec .shift s = .next { s with
        block := { s.block with
          y := y, status := { completed s.block.status with shifted := true }, pending := none } })) ∧
  |val32 0x3F8147AE#32 - 1| ≤ 1 / 100 ∧ 1 / 100 < |val32 0x3F8147AF#32 - 1| ∧
  |val32 0x3F7D70A4#32 - 1| ≤ 1 / 100 ∧ 1 / 100 < |val32 0x3F7D70A3#32 - 1|

/-- SHIFT outside the dead zone: every Y[i] is interp(i, r), clamped past the last sample (43_resampler.md R183). -/
def Obligations.ShiftInterpolates : Prop :=
  ∀ s : State, FiniteDatum s.block.ratio → 0 < val32 s.block.ratio → 1 / 100 < |val32 s.block.ratio - 1| →
    ∃ y : Frame Word,
      exec .shift s = .next { s with
        block := { s.block with
          y := y, status := { completed s.block.status with shifted := true }, pending := none } } ∧
      ∀ (i : Nat) (h : i < 1024),
        let p := fmul (floatOf i) s.block.ratio
        ((p = 0x7F800000#32 ∨ (FiniteDatum p ∧ 1023 ≤ val32 p)) → y[i] = s.block.x[1023]) ∧
        (FiniteDatum p → val32 p < 1023 →
          ∃ i0 : Nat, i0 ≤ 1022 ∧ (i0 : ℚ) ≤ val32 p ∧ val32 p < i0 + 1 ∧
            y[i] = fadd (elem s.block.x i0)
              (fmul (fsub p (floatOf i0)) (fsub (elem s.block.x (i0 + 1)) (elem s.block.x i0)))) ∧
        (p = 0x7F800000#32 ∨ FiniteDatum p)

/-- A resampled frame keeps its first sample, stays finite and within [-1, 32767/32768] (43_resampler.md R184 items 1, 2). -/
def Obligations.ShiftedFrameStaysInRange : Prop :=
  ∀ s : State, NormalizedFrame s.block.x → FiniteDatum s.block.ratio → 0 < val32 s.block.ratio →
    ∃ t, exec .shift s = .next t ∧ t.block.y[0] = s.block.x[0] ∧
      ∀ (i : Nat) (h : i < 1024), FiniteDatum t.block.y[i] ∧ -1 ≤ val32 t.block.y[i] ∧ val32 t.block.y[i] ≤ 32767 / 32768

/-! ## PROCESS -/

/-- PROCESS is the units' commands run in its order, or the registers of R222 where the frame is not in range
(45_frame_processor.md R221, R222). -/
def Obligations.ProcessIsTheUnitsInOrder : Prop :=
  ∀ s : State, ∃ t1 t2 t6, exec .convert s = .next t1 ∧ exec .detect t1 = .next t2 ∧ exec .process s = .next t6 ∧
    (t2.block.status.inRange = true → ∃ t3 t4 t5, exec .quantize t2 = .next t3 ∧ exec .ratio t3 = .next t4 ∧
      exec .shift t4 = .next t5 ∧ exec .clamp t5 = .next t6) ∧
    (t2.block.status.inRange = false →
      exec .clamp { t2 with
        block := { t2.block with
          noteidx := 0xF#4, target := 0x00000000#32, ratio := 0x3F800000#32, y := t2.block.x
          status := { t2.block.status with shifted := false } } } = .next t6)

/-- PROCESS retains nothing: everything it writes is a function of IN, and the rest stays (45_frame_processor.md R223). -/
def Obligations.ProcessDependsOnInAlone : Prop :=
  ∀ s s' : State, s.block.inp = s'.block.inp → ∃ t t', exec .process s = .next t ∧ exec .process s' = .next t' ∧
    t.block.x = t'.block.x ∧ t.block.energy = t'.block.energy ∧ t.block.maxcorr = t'.block.maxcorr ∧
    t.block.bestlag = t'.block.bestlag ∧ t.block.freq = t'.block.freq ∧ t.block.noteidx = t'.block.noteidx ∧
    t.block.target = t'.block.target ∧ t.block.ratio = t'.block.ratio ∧ t.block.y = t'.block.y ∧ t.block.out = t'.block.out ∧
    t.block.status.voiced = t'.block.status.voiced ∧ t.block.status.inRange = t'.block.status.inRange ∧
    t.block.status.shifted = t'.block.status.shifted ∧
    t.block.ctrl = s.block.ctrl ∧ t.block.cmd = s.block.cmd ∧ t.block.inp = s.block.inp ∧
    t.block.status.errIllegal = s.block.status.errIllegal ∧ t.block.status.errBusy = s.block.status.errBusy ∧
    t.block.status.errOperand = s.block.status.errOperand ∧ t.block.status.errAccess = s.block.status.errAccess

/-- PROCESS raises no error, and in range its ratio is between the ends of 42_pitch_quantizer.md R167
(45_frame_processor.md R224). -/
def Obligations.ProcessRaisesNothing : Prop :=
  ∀ s : State, ∃ t, exec .process s = .next t ∧
    t.block.status.errIllegal = s.block.status.errIllegal ∧ t.block.status.errBusy = s.block.status.errBusy ∧
    t.block.status.errOperand = s.block.status.errOperand ∧ t.block.status.errAccess = s.block.status.errAccess ∧
    (t.block.status.inRange = true →
      FiniteDatum t.block.freq ∧ val32 0x42AC9A4D#32 ≤ val32 t.block.freq ∧ (∃ k : Fin 13, t.block.target = Config.scale k) ∧
      FiniteDatum t.block.ratio ∧ val32 0x3E8BB922#32 ≤ val32 t.block.ratio ∧ val32 t.block.ratio ≤ val32 0x40420580#32)

/-- A frame not in range, or in range with its ratio in the dead zone, comes out sample for sample (45_frame_processor.md R227
item 3). -/
def Obligations.UnshiftedFramePassesThrough : Prop :=
  ∀ s : State, ∃ t, exec .process s = .next t ∧
    (t.block.status.inRange = false → t.block.out = s.block.inp) ∧
    (t.block.status.shifted = false → t.block.out = s.block.inp)

/-- Every processed frame keeps its first sample (45_frame_processor.md R227 item 4). -/
def Obligations.ProcessKeepsTheFirstSample : Prop :=
  ∀ s : State, ∃ t, exec .process s = .next t ∧ t.block.out[0] = s.block.inp[0]

/-! ## The bus -/

/-- A bad access sets ERR_ACCESS, reads as 0 and changes nothing else (60_exceptions.md R244, 20_memory.md R82, R83). -/
def Obligations.BadAccessOnlySetsErrAccess : Prop :=
  ∀ (s : State) (a : Offset) (width : BitVec 3) (data : Word) (rest : List Event), BadAccess a width →
    (s.agenda = .bus (.read a width) :: rest →
      step s = .next { s with
        agenda := rest, returned := 0#32 :: s.returned
        block := { s.block with status := { s.block.status with errAccess := true } } }) ∧
    (s.agenda = .bus (.write a width data) :: rest →
      step s = .next { s with
        agenda := rest, block := { s.block with status := { s.block.status with errAccess := true } } })

/-- A write to a read-only register changes nothing, busy or not; the read-only fields of CTRL and STATUS keep their values while
the rest of the write takes effect (20_memory.md R84, 10_state.md R35, R37). -/
def Obligations.ReadOnlyWritesAreIgnored : Prop :=
  ∀ (s : State) (a : Offset) (data : Word) (rest : List Event), s.agenda = .bus (.write a 4#3 data) :: rest →
    (a.toNat % 4 = 0 → ReadOnly a → step s = .next { s with agenda := rest }) ∧
    (a = 0x004#16 →
      step s = .next { s with agenda := rest, block := { s.block with ctrl := { irqEn := data.getLsbD 0 } } }) ∧
    (a = 0x00C#16 →
      step s = .next { s with
        agenda := rest
        block := { s.block with
          status := { s.block.status with
            done := s.block.status.done && !data.getLsbD 1
            errIllegal := s.block.status.errIllegal && !data.getLsbD 8
            errBusy := s.block.status.errBusy && !data.getLsbD 9
            errOperand := s.block.status.errOperand && !data.getLsbD 10
            errAccess := s.block.status.errAccess && !data.getLsbD 11 } } })

/-- While busy, a guarded write is dropped with ERR_BUSY; CTRL and STATUS writes take effect; read-only writes are ignored
(20_memory.md R85, 60_exceptions.md R242). -/
def Obligations.BusyGuardDropsWrites : Prop :=
  ∀ (s : State) (a : Offset) (data : Word) (rest : List Event), s.block.status.busy = true →
    s.agenda = .bus (.write a 4#3 data) :: rest →
      (a.toNat % 4 = 0 → Guarded a →
        step s = .next { s with
          agenda := rest, block := { s.block with status := { s.block.status with errBusy := true } } }) ∧
      (a = 0x004#16 →
        step s = .next { s with agenda := rest, block := { s.block with ctrl := { irqEn := data.getLsbD 0 } } }) ∧
      (a = 0x00C#16 → ∃ t, step s = .next t ∧ t.block.status.done = (s.block.status.done && !data.getLsbD 1) ∧
        t.block.status.errIllegal = (s.block.status.errIllegal && !data.getLsbD 8) ∧
        t.block.status.errBusy = (s.block.status.errBusy && !data.getLsbD 9) ∧
        t.block.status.errOperand = (s.block.status.errOperand && !data.getLsbD 10) ∧
        t.block.status.errAccess = (s.block.status.errAccess && !data.getLsbD 11)) ∧
      (a.toNat % 4 = 0 → ReadOnly a → step s = .next { s with agenda := rest })

/-- While busy, a read of a result gives a free word, of STATUS its fixed bits with bits 2 to 4 free, of anything else its
value; no read changes the block (20_memory.md R86). The free words are Config.busyRead's, of which nothing is known: the
statement holds for every value of them (log 2). -/
def Obligations.BusyReadsOfResultsAreFree : Prop :=
  ∀ (s : State) (l : Loc) (rest : List Event), s.block.status.busy = true → s.agenda = .bus (.read l.offset 4#3) :: rest →
    ∃ v t, step s = .next t ∧ t.block = s.block ∧ t.agenda = rest ∧ t.returned = v :: s.returned ∧
      (l ∈ [Loc.energy, .maxcorr, .bestlag, .freq, .noteidx, .target, .ratio] ∨
        (∃ i, l = .out i ∨ l = .x i ∨ l = .y i) → v = Config.busyRead s.draws ∧ t.draws = s.draws + 1) ∧
      (l = .status →
        (∀ k, k < 32 → k ≠ 2 → k ≠ 3 → k ≠ 4 → v.getLsbD k = s.block.status.toWord.getLsbD k) ∧
        (v.getLsbD 2 = (Config.busyRead s.draws).getLsbD 2 ∧ v.getLsbD 3 = (Config.busyRead s.draws).getLsbD 3 ∧
          v.getLsbD 4 = (Config.busyRead s.draws).getLsbD 4)) ∧
      (l ∈ [Loc.id, .ctrl, .cmd, .sampleRate, .frameSize, .lagLimit, .corrThresh, .freqMin, .freqMax, .deadZone, .scaleCount] ∨
        (∃ k, l = .scale k) ∨ (∃ i, l = .inp i) → v = s.block.value l)

/-- While idle, a read returns the register's value and changes nothing (10_state.md R34 to R50; 20_memory.md R87). The words of
the scale are those of 00_scope.md R7, ten of which that rule itself takes from general knowledge (log 15). -/
def Obligations.IdleReadsReturnTheRegister : Prop :=
  (∀ (s : State) (l : Loc) (rest : List Event), s.block.status.busy = false → s.agenda = .bus (.read l.offset 4#3) :: rest →
    step s = .next { s with agenda := rest, returned := s.block.value l :: s.returned }) ∧
  ∀ b : Block,
    b.value .id = 0x41430001#32 ∧ b.value .cmd = b.cmd ∧ b.value .energy = b.energy ∧ b.value .maxcorr = b.maxcorr ∧
    (b.value .bestlag).toNat = b.bestlag.toNat ∧ b.value .freq = b.freq ∧ (b.value .noteidx).toNat = b.noteidx.toNat ∧
    b.value .target = b.target ∧ b.value .ratio = b.ratio ∧ b.value .sampleRate = 0x0000AC44#32 ∧
    b.value .frameSize = 0x00000400#32 ∧ b.value .lagLimit = 0x00000200#32 ∧ b.value .corrThresh = 0x3F000000#32 ∧
    b.value .freqMin = 0x42480000#32 ∧ b.value .freqMax = 0x44FA0000#32 ∧ b.value .deadZone = 0x3C23D70A#32 ∧
    b.value .scaleCount = 0x0000000D#32 ∧
    b.value .ctrl = (if b.ctrl.irqEn then 0x00000001#32 else 0x00000000#32) ∧ b.value .status = b.status.toWord ∧
    List.ofFn (fun k : Fin 13 => b.value (.scale k)) =
      [0x4382D0A4#32, 0x438A970A#32, 0x4392D47B#32, 0x439B90A4#32, 0x43A4D0A4#32, 0x43AE9D71#32, 0x43B8FEB8#32,
        0x43C40000#32, 0x43CFA666#32, 0x43DC0000#32, 0x43E9147B#32, 0x43F6F0A4#32, 0x4402D000#32] ∧
    ∀ i : Fin 1024, (b.value (.inp i)).toInt = b.inp[i].toInt ∧ (b.value (.out i)).toInt = b.out[i].toInt ∧
      b.value (.x i) = b.x[i] ∧ b.value (.y i) = b.y[i]

/-- While idle, a write of an RW location stores it, and no other location of the map reads differently after it than before
(10_state.md R35, R41, R43, R44, R47, R50). -/
def Obligations.IdleWritesStoreOneLocation : Prop :=
  ∀ (s : State) (data : Word) (l : Loc) (rest : List Event), s.block.status.busy = false →
    s.agenda = .bus (.write l.offset 4#3 data) :: rest →
      l ∈ [Loc.ctrl, .freq, .target, .ratio] ∨ (∃ i, l = .inp i ∨ l = .y i) →
        ∃ t, step s = .next t ∧ t.agenda = rest ∧ t.block.pending = s.block.pending ∧
          (∀ l', l' ≠ l → t.block.value l' = s.block.value l') ∧
          (l = .ctrl → t.block.ctrl.irqEn = data.getLsbD 0) ∧
          (l = .freq → t.block.freq = data) ∧ (l = .target → t.block.target = data) ∧ (l = .ratio → t.block.ratio = data) ∧
          (∀ i, l = .inp i → t.block.value (.inp i) = (data.extractLsb' 0 16).signExtend 32) ∧
          (∀ i, l = .y i → t.block.value (.y i) = data)

/-- A STATUS write clears the W1C bits it names and no other state; ACK clears all five sources and lowers irq
(60_exceptions.md R247, 10_state.md R37). -/
def Obligations.StatusWriteClearsNamedBits : Prop :=
  ∀ (s : State) (data : Word) (rest : List Event), s.agenda = .bus (.write 0x00C#16 4#3 data) :: rest →
    ∃ t, step s = .next t ∧
      t = { s with
        agenda := rest
        block := { s.block with
          status := { s.block.status with
            done := s.block.status.done && !data.getLsbD 1
            errIllegal := s.block.status.errIllegal && !data.getLsbD 8
            errBusy := s.block.status.errBusy && !data.getLsbD 9
            errOperand := s.block.status.errOperand && !data.getLsbD 10
            errAccess := s.block.status.errAccess && !data.getLsbD 11 } } } ∧
      (data = 0x00000F02#32 → t.block.status.anySource = false ∧ t.block.irq = false)

/-- The bits of the STATUS word (10_state.md R37): each at its place, the reserved ones 0. -/
def Obligations.StatusWordLayout : Prop :=
  ∀ (st : Status) (k : Nat), st.toWord.getLsbD k =
    if k = 0 then st.busy else if k = 1 then st.done else if k = 2 then st.voiced else if k = 3 then st.inRange
    else if k = 4 then st.shifted else if k = 8 then st.errIllegal else if k = 9 then st.errBusy
    else if k = 10 then st.errOperand else if k = 11 then st.errAccess else false

/-- One access raises at most one error, in the order of 60_exceptions.md R248. -/
def Obligations.ErrorPriorityOfOneWrite : Prop :=
  ∀ (s : State) (a : Offset) (width : BitVec 3) (data : Word) (rest : List Event),
    s.agenda = .bus (.write a width data) :: rest → s.block.status.noError = true →
      ∃ t, step s = .next t ∧
        (BadAccess a width → t.block.status = { s.block.status with errAccess := true }) ∧
        (¬ BadAccess a width → Guarded a → s.block.status.busy = true →
          t.block.status = { s.block.status with errBusy := true }) ∧
        (¬ BadAccess a width → a = 0x008#16 → s.block.status.busy = false → IllegalWord data →
          t.block.status = { s.block.status with errIllegal := true }) ∧
        (¬ BadAccess a width → ¬ (Guarded a ∧ s.block.status.busy = true) → ¬ (a = 0x008#16 ∧ IllegalWord data) →
          t.block.status.noError = true)

/-- irq is IRQ_EN and any of DONE and the four error bits, read off the words of CTRL and STATUS (10_state.md R53); so every
completion raises it where it is enabled, and none does where it is not (60_exceptions.md R246). -/
def Obligations.IrqIsTheLevelOfItsSources : Prop :=
  (∀ b : Block, b.irq = true ↔ ((b.value .ctrl).getLsbD 0 = true ∧ (b.value .status) &&& 0x00000F02#32 ≠ 0#32)) ∧
  State.reset.block.irq = false ∧
  ∀ (i : Instr) (s : State), ∃ t, exec i s = .next t ∧ t.block.irq = s.block.ctrl.irqEn

/-! ## Arithmetic -/

/-- The four primitives round the exact result once, and zero results have the sign R11 gives (00_scope.md R11). -/
def Obligations.PrimitivesRoundOnce : Prop :=
  ∀ a b : Word, FiniteDatum a → FiniteDatum b →
    IsRnd32 (val32 a + val32 b) (fadd a b) ∧ IsRnd32 (val32 a - val32 b) (fsub a b) ∧
    IsRnd32 (val32 a * val32 b) (fmul a b) ∧ (¬ ZeroDatum b → IsRnd32 (val32 a / val32 b) (fdiv a b)) ∧
    (val32 (fabs a) = |val32 a| ∧ (fabs a).msb = false ∧ fracOf (fabs a) = fracOf a ∧ expOf (fabs a) = expOf a) ∧
    (val32 a + val32 b = 0 → a.msb ≠ b.msb → fadd a b = 0#32) ∧ fsub a a = 0#32 ∧
    (ZeroDatum (fmul a b) → (fmul a b).msb = (a.msb ^^ b.msb)) ∧
    (¬ ZeroDatum b → ZeroDatum (fdiv a b) → (fdiv a b).msb = (a.msb ^^ b.msb))

/-- The integer units of the model are the real values of 00_scope.md R10. -/
def Obligations.ExactUnitsAreRealValues : Prop :=
  ∀ w : Word, (isFinite w = true ↔ FiniteDatum w) ∧ (FiniteDatum w → val32 w = (exactUnits w : ℚ) * (2 : ℚ) ^ (-149 : ℤ))

/-- Comparisons compare real values; the infinities are the ends (00_scope.md R12). -/
def Obligations.ComparisonsAreRealComparisons : Prop :=
  (∀ a b : Word, FiniteDatum a → FiniteDatum b →
    (flt a b = true ↔ val32 a < val32 b) ∧ (fle a b = true ↔ val32 a ≤ val32 b) ∧ (isZero a = true ↔ val32 a = 0)) ∧
  ∀ a : Word, FiniteDatum a → flt a 0x7F800000#32 = true ∧ flt 0xFF800000#32 a = true ∧
    flt 0x7F800000#32 a = false ∧ flt a 0xFF800000#32 = false

/-- float(n) is exact for every integer the rules convert (00_scope.md R15). -/
def Obligations.FloatOfSmallIntegerIsExact : Prop :=
  ∀ n : Int, |n| ≤ 2 ^ 24 → FiniteDatum (floatOf n) ∧ val32 (floatOf n) = n

/-! ## The host -/

/-- WAIT reads STATUS until a read has BUSY = 0, and RUN is CMD then WAIT, wherever the engine's turn falls (30_encoding.md R107): an
idle WAIT is one read; in a RUN, each read before the engine's turn finds BUSY = 1, and the first after it ends the WAIT with
the command's result. `turns` says before which transactions the engine has its turn (log 16). -/
def Obligations.RunStatementCompletesItsCommand : Prop :=
  ∀ (i : Instr) (turns : List Bool) (s : State), s.block.status.busy = false → s.block.pending = none →
    runProgram [.wait] { state := s, turns := turns } =
      some { state := { s with returned := s.block.status.toWord :: s.returned }, turns := turns.tail } ∧
    ∃ t u polls, runProgram [.run i] { state := s, turns := turns } = some t ∧
      exec i { s with block := s.block.accept (encode i) i } = .next u ∧
      t.state.block = u.block ∧ t.state.agenda = s.agenda ∧ u.block.status.busy = false ∧
      t.state.returned = u.block.status.toWord :: (polls ++ s.returned) ∧
      polls.length = (turns.tail.takeWhile fun engineFirst => !engineFirst).length ∧
      ∀ w ∈ polls, w.getLsbD 0 = true

/-- processAudio writes exactly output[0..L) and passes the tail (45_frame_processor.md R225, R226, R227 items 1 and 2). -/
def Obligations.ProcessAudioLengthAndTail : Prop :=
  ∀ (input output : List Sample) (turns : List Bool) (s : State), s.block.status.busy = false → s.block.pending = none →
    input.length ≤ output.length →
      ∃ result t, processAudio input output { state := s, turns := turns } = some (result, t) ∧
        result.length = output.length ∧
        (∀ i, 1024 * (input.length / 1024) ≤ i → i < input.length → result[i]? = input[i]?) ∧
        (∀ i, input.length ≤ i → result[i]? = output[i]?)

/-- Each whole frame of processAudio's output is PROCESS's output of that frame alone (45_frame_processor.md R227 item 6). -/
def Obligations.ProcessAudioFramesAreIndependent : Prop :=
  ∀ (input output : List Sample) (turns : List Bool) (s : State), s.block.status.busy = false → s.block.pending = none →
    input.length ≤ output.length →
      ∃ result t, processAudio input output { state := s, turns := turns } = some (result, t) ∧
        ∀ (k : Nat) (frame : Frame Sample), k < input.length / 1024 →
          (∀ (j : Nat) (h : j < 1024), input[1024 * k + j]? = some frame[j]) →
            ∃ u, exec .process { State.reset with block := { Block.reset with inp := frame } } = .next u ∧
              ∀ (j : Nat) (h : j < 1024), result[1024 * k + j]? = some u.block.out[j]

end
end

