-- ==== Sys2Proof/Laws/Decode.lean ====
section
/-! SUPPORT. What the decoder answers, case by case. -/

namespace Sys2Proof

/-- The opcode map is the numbering of the commands. -/
theorem decodeOpcode_iff (op : BitVec 8) (i : Instr) : decodeOpcode op = some i ↔ op.toNat = i.opcode := by
  unfold decodeOpcode
  constructor
  · intro h
    split at h <;> first | (cases h; assumption) | cases h
  · intro h
    rw [h]
    cases i <;> rfl

theorem decode_ok {w : Word} {i : Instr} (hr : reservedClear w) (ho : decodeOpcode (opcodeField w) = some i) :
    decode w = .ok i := by
  unfold decode
  rw [if_pos hr, ho]

theorem decode_bad_opcode {w : Word} (hr : reservedClear w) (ho : decodeOpcode (opcodeField w) = none) :
    decode w = .error .reservedOpcode := by
  unfold decode
  rw [if_pos hr, ho]

theorem decode_bad_bits {w : Word} (hr : ¬ reservedClear w) : decode w = .error .reservedBits := by
  unfold decode
  rw [if_neg hr]

/-- A decoded word has its reserved bits clear and its command's opcode. -/
theorem decode_ok_fields {w : Word} {i : Instr} (h : decode w = .ok i) : reservedClear w ∧ (opcodeField w).toNat = i.opcode := by
  by_cases hr : reservedClear w
  · refine ⟨hr, (decodeOpcode_iff _ _).mp ?_⟩
    unfold decode at h
    rw [if_pos hr] at h
    split at h
    · rename_i j hj
      cases h
      exact hj
    · cases h
  · rw [decode_bad_bits hr] at h
    cases h

end Sys2Proof
end

