-- ==== Sys2Proof/Laws/Frame.lean ====
section
/-! SUPPORT. What each frame operation does to each element; equal elements make equal frames. -/

namespace Sys2Proof.Machine

@[simp] theorem tabulate_get {α : Type} (f : Nat → α) (i : Nat) (h : i < Config.frameSize) : (Frame.tabulate f)[i] = f i := by
  simp [Frame.tabulate]

@[simp] theorem mapAll_get {α β : Type} (f : α → β) (v : Frame α) (i : Nat) (h : i < Config.frameSize) :
    (Frame.mapAll f v)[i] = f v[i] := by
  simp [Frame.mapAll]

@[simp] theorem put_get_same {α : Type} (v : Frame α) (i : Fin Config.frameSize) (e : α) : (Frame.put v i e)[i.val] = e := by
  simp [Frame.put]

theorem put_get_other {α : Type} (v : Frame α) (i : Fin Config.frameSize) (e : α) (j : Nat) (h : j < Config.frameSize)
    (hne : i.val ≠ j) : (Frame.put v i e)[j] = v[j] := by
  simp [Frame.put, hne]

theorem clampedAt_eq {α : Type} (v : Frame α) (i : Nat) (h : i < Config.frameSize) : Frame.clampedAt v i = v[i] := by
  have hm : min i (Config.frameSize - 1) = i := Nat.min_eq_left (Nat.le_sub_one_of_lt h)
  simp only [Frame.clampedAt, hm]

theorem clampedAt_last {α : Type} (v : Frame α) : Frame.clampedAt v (Config.frameSize - 1) = v[1023] := rfl

@[simp] theorem fill_get {α : Type} (e : α) (i : Nat) (h : i < Config.frameSize) : (Frame.fill e)[i] = e := by
  simp [Frame.fill]

theorem frame_ext {α : Type} {u v : Frame α} (h : ∀ (i : Nat) (hi : i < Config.frameSize), u[i] = v[i]) : u = v :=
  Vector.ext h

end Sys2Proof.Machine
end

