-- ==== Sys2Proof/Laws/State.lean ====
section
/-! SUPPORT. One lemma per field per update: what each operation and body leaves in each field of the block and the state. -/

namespace Sys2Proof.Machine

/-! ## raiseError -/

@[simp] theorem raiseError_ctrl (b : Block) (e : ErrorCause) : (b.raiseError e).ctrl = b.ctrl := by cases e <;> rfl
@[simp] theorem raiseError_cmd (b : Block) (e : ErrorCause) : (b.raiseError e).cmd = b.cmd := by cases e <;> rfl
@[simp] theorem raiseError_energy (b : Block) (e : ErrorCause) : (b.raiseError e).energy = b.energy := by cases e <;> rfl
@[simp] theorem raiseError_maxcorr (b : Block) (e : ErrorCause) : (b.raiseError e).maxcorr = b.maxcorr := by cases e <;> rfl
@[simp] theorem raiseError_bestlag (b : Block) (e : ErrorCause) : (b.raiseError e).bestlag = b.bestlag := by cases e <;> rfl
@[simp] theorem raiseError_freq (b : Block) (e : ErrorCause) : (b.raiseError e).freq = b.freq := by cases e <;> rfl
@[simp] theorem raiseError_noteidx (b : Block) (e : ErrorCause) : (b.raiseError e).noteidx = b.noteidx := by cases e <;> rfl
@[simp] theorem raiseError_target (b : Block) (e : ErrorCause) : (b.raiseError e).target = b.target := by cases e <;> rfl
@[simp] theorem raiseError_ratio (b : Block) (e : ErrorCause) : (b.raiseError e).ratio = b.ratio := by cases e <;> rfl
@[simp] theorem raiseError_inp (b : Block) (e : ErrorCause) : (b.raiseError e).inp = b.inp := by cases e <;> rfl
@[simp] theorem raiseError_out (b : Block) (e : ErrorCause) : (b.raiseError e).out = b.out := by cases e <;> rfl
@[simp] theorem raiseError_x (b : Block) (e : ErrorCause) : (b.raiseError e).x = b.x := by cases e <;> rfl
@[simp] theorem raiseError_y (b : Block) (e : ErrorCause) : (b.raiseError e).y = b.y := by cases e <;> rfl
@[simp] theorem raiseError_pending (b : Block) (e : ErrorCause) : (b.raiseError e).pending = b.pending := by cases e <;> rfl
@[simp] theorem raiseError_status_busy (b : Block) (e : ErrorCause) : (b.raiseError e).status.busy = b.status.busy := by cases e <;> rfl
@[simp] theorem raiseError_status_done (b : Block) (e : ErrorCause) : (b.raiseError e).status.done = b.status.done := by cases e <;> rfl
@[simp] theorem raiseError_status_voiced (b : Block) (e : ErrorCause) : (b.raiseError e).status.voiced = b.status.voiced := by cases e <;> rfl
@[simp] theorem raiseError_status_inRange (b : Block) (e : ErrorCause) : (b.raiseError e).status.inRange = b.status.inRange := by cases e <;> rfl
@[simp] theorem raiseError_status_shifted (b : Block) (e : ErrorCause) : (b.raiseError e).status.shifted = b.status.shifted := by cases e <;> rfl
@[simp] theorem raiseError_status_errIllegal (b : Block) (e : ErrorCause) : (b.raiseError e).status.errIllegal = (b.status.errIllegal || decide (e = .illegal)) := by cases e <;> simp [Block.raiseError]
@[simp] theorem raiseError_status_errBusy (b : Block) (e : ErrorCause) : (b.raiseError e).status.errBusy = (b.status.errBusy || decide (e = .busy)) := by cases e <;> simp [Block.raiseError]
@[simp] theorem raiseError_status_errOperand (b : Block) (e : ErrorCause) : (b.raiseError e).status.errOperand = (b.status.errOperand || decide (e = .operand)) := by cases e <;> simp [Block.raiseError]
@[simp] theorem raiseError_status_errAccess (b : Block) (e : ErrorCause) : (b.raiseError e).status.errAccess = (b.status.errAccess || decide (e = .access)) := by cases e <;> simp [Block.raiseError]

/-! ## acknowledge -/

@[simp] theorem acknowledge_ctrl (b : Block) (data : Word) : (b.acknowledge data).ctrl = b.ctrl := rfl
@[simp] theorem acknowledge_cmd (b : Block) (data : Word) : (b.acknowledge data).cmd = b.cmd := rfl
@[simp] theorem acknowledge_energy (b : Block) (data : Word) : (b.acknowledge data).energy = b.energy := rfl
@[simp] theorem acknowledge_maxcorr (b : Block) (data : Word) : (b.acknowledge data).maxcorr = b.maxcorr := rfl
@[simp] theorem acknowledge_bestlag (b : Block) (data : Word) : (b.acknowledge data).bestlag = b.bestlag := rfl
@[simp] theorem acknowledge_freq (b : Block) (data : Word) : (b.acknowledge data).freq = b.freq := rfl
@[simp] theorem acknowledge_noteidx (b : Block) (data : Word) : (b.acknowledge data).noteidx = b.noteidx := rfl
@[simp] theorem acknowledge_target (b : Block) (data : Word) : (b.acknowledge data).target = b.target := rfl
@[simp] theorem acknowledge_ratio (b : Block) (data : Word) : (b.acknowledge data).ratio = b.ratio := rfl
@[simp] theorem acknowledge_inp (b : Block) (data : Word) : (b.acknowledge data).inp = b.inp := rfl
@[simp] theorem acknowledge_out (b : Block) (data : Word) : (b.acknowledge data).out = b.out := rfl
@[simp] theorem acknowledge_x (b : Block) (data : Word) : (b.acknowledge data).x = b.x := rfl
@[simp] theorem acknowledge_y (b : Block) (data : Word) : (b.acknowledge data).y = b.y := rfl
@[simp] theorem acknowledge_pending (b : Block) (data : Word) : (b.acknowledge data).pending = b.pending := rfl
@[simp] theorem acknowledge_status_busy (b : Block) (data : Word) : (b.acknowledge data).status.busy = b.status.busy := rfl
@[simp] theorem acknowledge_status_done (b : Block) (data : Word) : (b.acknowledge data).status.done = (b.status.done && !data.getLsbD 1) := rfl
@[simp] theorem acknowledge_status_voiced (b : Block) (data : Word) : (b.acknowledge data).status.voiced = b.status.voiced := rfl
@[simp] theorem acknowledge_status_inRange (b : Block) (data : Word) : (b.acknowledge data).status.inRange = b.status.inRange := rfl
@[simp] theorem acknowledge_status_shifted (b : Block) (data : Word) : (b.acknowledge data).status.shifted = b.status.shifted := rfl
@[simp] theorem acknowledge_status_errIllegal (b : Block) (data : Word) : (b.acknowledge data).status.errIllegal = (b.status.errIllegal && !data.getLsbD 8) := rfl
@[simp] theorem acknowledge_status_errBusy (b : Block) (data : Word) : (b.acknowledge data).status.errBusy = (b.status.errBusy && !data.getLsbD 9) := rfl
@[simp] theorem acknowledge_status_errOperand (b : Block) (data : Word) : (b.acknowledge data).status.errOperand = (b.status.errOperand && !data.getLsbD 10) := rfl
@[simp] theorem acknowledge_status_errAccess (b : Block) (data : Word) : (b.acknowledge data).status.errAccess = (b.status.errAccess && !data.getLsbD 11) := rfl

/-! ## accept -/

@[simp] theorem accept_ctrl (b : Block) (w : Word) (i : Instr) : (b.accept w i).ctrl = b.ctrl := rfl
@[simp] theorem accept_cmd (b : Block) (w : Word) (i : Instr) : (b.accept w i).cmd = w := rfl
@[simp] theorem accept_energy (b : Block) (w : Word) (i : Instr) : (b.accept w i).energy = b.energy := rfl
@[simp] theorem accept_maxcorr (b : Block) (w : Word) (i : Instr) : (b.accept w i).maxcorr = b.maxcorr := rfl
@[simp] theorem accept_bestlag (b : Block) (w : Word) (i : Instr) : (b.accept w i).bestlag = b.bestlag := rfl
@[simp] theorem accept_freq (b : Block) (w : Word) (i : Instr) : (b.accept w i).freq = b.freq := rfl
@[simp] theorem accept_noteidx (b : Block) (w : Word) (i : Instr) : (b.accept w i).noteidx = b.noteidx := rfl
@[simp] theorem accept_target (b : Block) (w : Word) (i : Instr) : (b.accept w i).target = b.target := rfl
@[simp] theorem accept_ratio (b : Block) (w : Word) (i : Instr) : (b.accept w i).ratio = b.ratio := rfl
@[simp] theorem accept_inp (b : Block) (w : Word) (i : Instr) : (b.accept w i).inp = b.inp := rfl
@[simp] theorem accept_out (b : Block) (w : Word) (i : Instr) : (b.accept w i).out = b.out := rfl
@[simp] theorem accept_x (b : Block) (w : Word) (i : Instr) : (b.accept w i).x = b.x := rfl
@[simp] theorem accept_y (b : Block) (w : Word) (i : Instr) : (b.accept w i).y = b.y := rfl
@[simp] theorem accept_pending (b : Block) (w : Word) (i : Instr) : (b.accept w i).pending = some i := rfl
@[simp] theorem accept_status_busy (b : Block) (w : Word) (i : Instr) : (b.accept w i).status.busy = true := rfl
@[simp] theorem accept_status_done (b : Block) (w : Word) (i : Instr) : (b.accept w i).status.done = false := rfl
@[simp] theorem accept_status_voiced (b : Block) (w : Word) (i : Instr) : (b.accept w i).status.voiced = b.status.voiced := rfl
@[simp] theorem accept_status_inRange (b : Block) (w : Word) (i : Instr) : (b.accept w i).status.inRange = b.status.inRange := rfl
@[simp] theorem accept_status_shifted (b : Block) (w : Word) (i : Instr) : (b.accept w i).status.shifted = b.status.shifted := rfl
@[simp] theorem accept_status_errIllegal (b : Block) (w : Word) (i : Instr) : (b.accept w i).status.errIllegal = b.status.errIllegal := rfl
@[simp] theorem accept_status_errBusy (b : Block) (w : Word) (i : Instr) : (b.accept w i).status.errBusy = b.status.errBusy := rfl
@[simp] theorem accept_status_errOperand (b : Block) (w : Word) (i : Instr) : (b.accept w i).status.errOperand = b.status.errOperand := rfl
@[simp] theorem accept_status_errAccess (b : Block) (w : Word) (i : Instr) : (b.accept w i).status.errAccess = b.status.errAccess := rfl

/-! ## complete -/

@[simp] theorem complete_ctrl (b : Block) : (b.complete).ctrl = b.ctrl := rfl
@[simp] theorem complete_cmd (b : Block) : (b.complete).cmd = b.cmd := rfl
@[simp] theorem complete_energy (b : Block) : (b.complete).energy = b.energy := rfl
@[simp] theorem complete_maxcorr (b : Block) : (b.complete).maxcorr = b.maxcorr := rfl
@[simp] theorem complete_bestlag (b : Block) : (b.complete).bestlag = b.bestlag := rfl
@[simp] theorem complete_freq (b : Block) : (b.complete).freq = b.freq := rfl
@[simp] theorem complete_noteidx (b : Block) : (b.complete).noteidx = b.noteidx := rfl
@[simp] theorem complete_target (b : Block) : (b.complete).target = b.target := rfl
@[simp] theorem complete_ratio (b : Block) : (b.complete).ratio = b.ratio := rfl
@[simp] theorem complete_inp (b : Block) : (b.complete).inp = b.inp := rfl
@[simp] theorem complete_out (b : Block) : (b.complete).out = b.out := rfl
@[simp] theorem complete_x (b : Block) : (b.complete).x = b.x := rfl
@[simp] theorem complete_y (b : Block) : (b.complete).y = b.y := rfl
@[simp] theorem complete_pending (b : Block) : (b.complete).pending = none := rfl
@[simp] theorem complete_status_busy (b : Block) : (b.complete).status.busy = false := rfl
@[simp] theorem complete_status_done (b : Block) : (b.complete).status.done = true := rfl
@[simp] theorem complete_status_voiced (b : Block) : (b.complete).status.voiced = b.status.voiced := rfl
@[simp] theorem complete_status_inRange (b : Block) : (b.complete).status.inRange = b.status.inRange := rfl
@[simp] theorem complete_status_shifted (b : Block) : (b.complete).status.shifted = b.status.shifted := rfl
@[simp] theorem complete_status_errIllegal (b : Block) : (b.complete).status.errIllegal = b.status.errIllegal := rfl
@[simp] theorem complete_status_errBusy (b : Block) : (b.complete).status.errBusy = b.status.errBusy := rfl
@[simp] theorem complete_status_errOperand (b : Block) : (b.complete).status.errOperand = b.status.errOperand := rfl
@[simp] theorem complete_status_errAccess (b : Block) : (b.complete).status.errAccess = b.status.errAccess := rfl

/-! ## convertBody -/

@[simp] theorem convertBody_ctrl (b : Block) : (convertBody b).ctrl = b.ctrl := rfl
@[simp] theorem convertBody_cmd (b : Block) : (convertBody b).cmd = b.cmd := rfl
@[simp] theorem convertBody_energy (b : Block) : (convertBody b).energy = b.energy := rfl
@[simp] theorem convertBody_maxcorr (b : Block) : (convertBody b).maxcorr = b.maxcorr := rfl
@[simp] theorem convertBody_bestlag (b : Block) : (convertBody b).bestlag = b.bestlag := rfl
@[simp] theorem convertBody_freq (b : Block) : (convertBody b).freq = b.freq := rfl
@[simp] theorem convertBody_noteidx (b : Block) : (convertBody b).noteidx = b.noteidx := rfl
@[simp] theorem convertBody_target (b : Block) : (convertBody b).target = b.target := rfl
@[simp] theorem convertBody_ratio (b : Block) : (convertBody b).ratio = b.ratio := rfl
@[simp] theorem convertBody_inp (b : Block) : (convertBody b).inp = b.inp := rfl
@[simp] theorem convertBody_out (b : Block) : (convertBody b).out = b.out := rfl
@[simp] theorem convertBody_x (b : Block) : (convertBody b).x = Frame.mapAll convertSample b.inp := rfl
@[simp] theorem convertBody_y (b : Block) : (convertBody b).y = b.y := rfl
@[simp] theorem convertBody_pending (b : Block) : (convertBody b).pending = b.pending := rfl
@[simp] theorem convertBody_status_busy (b : Block) : (convertBody b).status.busy = b.status.busy := rfl
@[simp] theorem convertBody_status_done (b : Block) : (convertBody b).status.done = b.status.done := rfl
@[simp] theorem convertBody_status_voiced (b : Block) : (convertBody b).status.voiced = b.status.voiced := rfl
@[simp] theorem convertBody_status_inRange (b : Block) : (convertBody b).status.inRange = b.status.inRange := rfl
@[simp] theorem convertBody_status_shifted (b : Block) : (convertBody b).status.shifted = b.status.shifted := rfl
@[simp] theorem convertBody_status_errIllegal (b : Block) : (convertBody b).status.errIllegal = b.status.errIllegal := rfl
@[simp] theorem convertBody_status_errBusy (b : Block) : (convertBody b).status.errBusy = b.status.errBusy := rfl
@[simp] theorem convertBody_status_errOperand (b : Block) : (convertBody b).status.errOperand = b.status.errOperand := rfl
@[simp] theorem convertBody_status_errAccess (b : Block) : (convertBody b).status.errAccess = b.status.errAccess := rfl

/-! ## clampBody -/

@[simp] theorem clampBody_ctrl (b : Block) : (clampBody b).ctrl = b.ctrl := rfl
@[simp] theorem clampBody_cmd (b : Block) : (clampBody b).cmd = b.cmd := rfl
@[simp] theorem clampBody_energy (b : Block) : (clampBody b).energy = b.energy := rfl
@[simp] theorem clampBody_maxcorr (b : Block) : (clampBody b).maxcorr = b.maxcorr := rfl
@[simp] theorem clampBody_bestlag (b : Block) : (clampBody b).bestlag = b.bestlag := rfl
@[simp] theorem clampBody_freq (b : Block) : (clampBody b).freq = b.freq := rfl
@[simp] theorem clampBody_noteidx (b : Block) : (clampBody b).noteidx = b.noteidx := rfl
@[simp] theorem clampBody_target (b : Block) : (clampBody b).target = b.target := rfl
@[simp] theorem clampBody_ratio (b : Block) : (clampBody b).ratio = b.ratio := rfl
@[simp] theorem clampBody_inp (b : Block) : (clampBody b).inp = b.inp := rfl
@[simp] theorem clampBody_out (b : Block) : (clampBody b).out = Frame.mapAll clamp16 b.y := rfl
@[simp] theorem clampBody_x (b : Block) : (clampBody b).x = b.x := rfl
@[simp] theorem clampBody_y (b : Block) : (clampBody b).y = b.y := rfl
@[simp] theorem clampBody_pending (b : Block) : (clampBody b).pending = b.pending := rfl
@[simp] theorem clampBody_status_busy (b : Block) : (clampBody b).status.busy = b.status.busy := rfl
@[simp] theorem clampBody_status_done (b : Block) : (clampBody b).status.done = b.status.done := rfl
@[simp] theorem clampBody_status_voiced (b : Block) : (clampBody b).status.voiced = b.status.voiced := rfl
@[simp] theorem clampBody_status_inRange (b : Block) : (clampBody b).status.inRange = b.status.inRange := rfl
@[simp] theorem clampBody_status_shifted (b : Block) : (clampBody b).status.shifted = b.status.shifted := rfl
@[simp] theorem clampBody_status_errIllegal (b : Block) : (clampBody b).status.errIllegal = b.status.errIllegal := rfl
@[simp] theorem clampBody_status_errBusy (b : Block) : (clampBody b).status.errBusy = b.status.errBusy := rfl
@[simp] theorem clampBody_status_errOperand (b : Block) : (clampBody b).status.errOperand = b.status.errOperand := rfl
@[simp] theorem clampBody_status_errAccess (b : Block) : (clampBody b).status.errAccess = b.status.errAccess := rfl

/-! ## passBody -/

@[simp] theorem passBody_ctrl (b : Block) : (passBody b).ctrl = b.ctrl := rfl
@[simp] theorem passBody_cmd (b : Block) : (passBody b).cmd = b.cmd := rfl
@[simp] theorem passBody_energy (b : Block) : (passBody b).energy = b.energy := rfl
@[simp] theorem passBody_maxcorr (b : Block) : (passBody b).maxcorr = b.maxcorr := rfl
@[simp] theorem passBody_bestlag (b : Block) : (passBody b).bestlag = b.bestlag := rfl
@[simp] theorem passBody_freq (b : Block) : (passBody b).freq = b.freq := rfl
@[simp] theorem passBody_noteidx (b : Block) : (passBody b).noteidx = b.noteidx := rfl
@[simp] theorem passBody_target (b : Block) : (passBody b).target = b.target := rfl
@[simp] theorem passBody_ratio (b : Block) : (passBody b).ratio = b.ratio := rfl
@[simp] theorem passBody_inp (b : Block) : (passBody b).inp = b.inp := rfl
@[simp] theorem passBody_out (b : Block) : (passBody b).out = b.inp := rfl
@[simp] theorem passBody_x (b : Block) : (passBody b).x = b.x := rfl
@[simp] theorem passBody_y (b : Block) : (passBody b).y = b.y := rfl
@[simp] theorem passBody_pending (b : Block) : (passBody b).pending = b.pending := rfl
@[simp] theorem passBody_status_busy (b : Block) : (passBody b).status.busy = b.status.busy := rfl
@[simp] theorem passBody_status_done (b : Block) : (passBody b).status.done = b.status.done := rfl
@[simp] theorem passBody_status_voiced (b : Block) : (passBody b).status.voiced = b.status.voiced := rfl
@[simp] theorem passBody_status_inRange (b : Block) : (passBody b).status.inRange = b.status.inRange := rfl
@[simp] theorem passBody_status_shifted (b : Block) : (passBody b).status.shifted = b.status.shifted := rfl
@[simp] theorem passBody_status_errIllegal (b : Block) : (passBody b).status.errIllegal = b.status.errIllegal := rfl
@[simp] theorem passBody_status_errBusy (b : Block) : (passBody b).status.errBusy = b.status.errBusy := rfl
@[simp] theorem passBody_status_errOperand (b : Block) : (passBody b).status.errOperand = b.status.errOperand := rfl
@[simp] theorem passBody_status_errAccess (b : Block) : (passBody b).status.errAccess = b.status.errAccess := rfl

/-! ## writeEstimate -/

@[simp] theorem writeEstimate_ctrl (b : Block) (e : Word) (p : Peak) : (b.writeEstimate e p).ctrl = b.ctrl := rfl
@[simp] theorem writeEstimate_cmd (b : Block) (e : Word) (p : Peak) : (b.writeEstimate e p).cmd = b.cmd := rfl
@[simp] theorem writeEstimate_energy (b : Block) (e : Word) (p : Peak) : (b.writeEstimate e p).energy = e := rfl
@[simp] theorem writeEstimate_maxcorr (b : Block) (e : Word) (p : Peak) : (b.writeEstimate e p).maxcorr = p.best := rfl
@[simp] theorem writeEstimate_bestlag (b : Block) (e : Word) (p : Peak) : (b.writeEstimate e p).bestlag = BitVec.ofNat 9 p.lag := rfl
@[simp] theorem writeEstimate_freq (b : Block) (e : Word) (p : Peak) : (b.writeEstimate e p).freq = (if voicedFlag p.best then lagFrequency p.lag else zeroF) := rfl
@[simp] theorem writeEstimate_noteidx (b : Block) (e : Word) (p : Peak) : (b.writeEstimate e p).noteidx = b.noteidx := rfl
@[simp] theorem writeEstimate_target (b : Block) (e : Word) (p : Peak) : (b.writeEstimate e p).target = b.target := rfl
@[simp] theorem writeEstimate_ratio (b : Block) (e : Word) (p : Peak) : (b.writeEstimate e p).ratio = b.ratio := rfl
@[simp] theorem writeEstimate_inp (b : Block) (e : Word) (p : Peak) : (b.writeEstimate e p).inp = b.inp := rfl
@[simp] theorem writeEstimate_out (b : Block) (e : Word) (p : Peak) : (b.writeEstimate e p).out = b.out := rfl
@[simp] theorem writeEstimate_x (b : Block) (e : Word) (p : Peak) : (b.writeEstimate e p).x = b.x := rfl
@[simp] theorem writeEstimate_y (b : Block) (e : Word) (p : Peak) : (b.writeEstimate e p).y = b.y := rfl
@[simp] theorem writeEstimate_pending (b : Block) (e : Word) (p : Peak) : (b.writeEstimate e p).pending = b.pending := rfl
@[simp] theorem writeEstimate_status_busy (b : Block) (e : Word) (p : Peak) : (b.writeEstimate e p).status.busy = b.status.busy := rfl
@[simp] theorem writeEstimate_status_done (b : Block) (e : Word) (p : Peak) : (b.writeEstimate e p).status.done = b.status.done := rfl
@[simp] theorem writeEstimate_status_voiced (b : Block) (e : Word) (p : Peak) : (b.writeEstimate e p).status.voiced = voicedFlag p.best := rfl
@[simp] theorem writeEstimate_status_inRange (b : Block) (e : Word) (p : Peak) : (b.writeEstimate e p).status.inRange = inRangeFlag (if voicedFlag p.best then lagFrequency p.lag else zeroF) := rfl
@[simp] theorem writeEstimate_status_shifted (b : Block) (e : Word) (p : Peak) : (b.writeEstimate e p).status.shifted = b.status.shifted := rfl
@[simp] theorem writeEstimate_status_errIllegal (b : Block) (e : Word) (p : Peak) : (b.writeEstimate e p).status.errIllegal = b.status.errIllegal := rfl
@[simp] theorem writeEstimate_status_errBusy (b : Block) (e : Word) (p : Peak) : (b.writeEstimate e p).status.errBusy = b.status.errBusy := rfl
@[simp] theorem writeEstimate_status_errOperand (b : Block) (e : Word) (p : Peak) : (b.writeEstimate e p).status.errOperand = b.status.errOperand := rfl
@[simp] theorem writeEstimate_status_errAccess (b : Block) (e : Word) (p : Peak) : (b.writeEstimate e p).status.errAccess = b.status.errAccess := rfl

/-! ## detectBody -/

@[simp] theorem detectBody_ctrl (b : Block) : (detectBody b).ctrl = b.ctrl := rfl
@[simp] theorem detectBody_cmd (b : Block) : (detectBody b).cmd = b.cmd := rfl
@[simp] theorem detectBody_energy (b : Block) : (detectBody b).energy = energyOf b.x.toList := rfl
@[simp] theorem detectBody_maxcorr (b : Block) : (detectBody b).maxcorr = (findPeak b.x.toList (energyOf b.x.toList)).best := rfl
@[simp] theorem detectBody_noteidx (b : Block) : (detectBody b).noteidx = b.noteidx := rfl
@[simp] theorem detectBody_target (b : Block) : (detectBody b).target = b.target := rfl
@[simp] theorem detectBody_ratio (b : Block) : (detectBody b).ratio = b.ratio := rfl
@[simp] theorem detectBody_inp (b : Block) : (detectBody b).inp = b.inp := rfl
@[simp] theorem detectBody_out (b : Block) : (detectBody b).out = b.out := rfl
@[simp] theorem detectBody_x (b : Block) : (detectBody b).x = b.x := rfl
@[simp] theorem detectBody_y (b : Block) : (detectBody b).y = b.y := rfl
@[simp] theorem detectBody_pending (b : Block) : (detectBody b).pending = b.pending := rfl
@[simp] theorem detectBody_status_busy (b : Block) : (detectBody b).status.busy = b.status.busy := rfl
@[simp] theorem detectBody_status_done (b : Block) : (detectBody b).status.done = b.status.done := rfl
@[simp] theorem detectBody_status_shifted (b : Block) : (detectBody b).status.shifted = b.status.shifted := rfl
@[simp] theorem detectBody_status_errIllegal (b : Block) : (detectBody b).status.errIllegal = b.status.errIllegal := rfl
@[simp] theorem detectBody_status_errBusy (b : Block) : (detectBody b).status.errBusy = b.status.errBusy := rfl
@[simp] theorem detectBody_status_errOperand (b : Block) : (detectBody b).status.errOperand = b.status.errOperand := rfl
@[simp] theorem detectBody_status_errAccess (b : Block) : (detectBody b).status.errAccess = b.status.errAccess := rfl

/-! ## quantizeBody -/

@[simp] theorem quantizeBody_ctrl (b : Block) : (quantizeBody b).ctrl = b.ctrl := by unfold quantizeBody; split <;> rfl
@[simp] theorem quantizeBody_cmd (b : Block) : (quantizeBody b).cmd = b.cmd := by unfold quantizeBody; split <;> rfl
@[simp] theorem quantizeBody_energy (b : Block) : (quantizeBody b).energy = b.energy := by unfold quantizeBody; split <;> rfl
@[simp] theorem quantizeBody_maxcorr (b : Block) : (quantizeBody b).maxcorr = b.maxcorr := by unfold quantizeBody; split <;> rfl
@[simp] theorem quantizeBody_bestlag (b : Block) : (quantizeBody b).bestlag = b.bestlag := by unfold quantizeBody; split <;> rfl
@[simp] theorem quantizeBody_freq (b : Block) : (quantizeBody b).freq = b.freq := by unfold quantizeBody; split <;> rfl
@[simp] theorem quantizeBody_noteidx (b : Block) : (quantizeBody b).noteidx = (if quantizeOperandOk b.freq then BitVec.ofNat 4 (nearestNote b.freq).val else b.noteidx) := by unfold quantizeBody; split <;> rfl
@[simp] theorem quantizeBody_target (b : Block) : (quantizeBody b).target = (if quantizeOperandOk b.freq then Config.scale (nearestNote b.freq) else b.target) := by unfold quantizeBody; split <;> rfl
@[simp] theorem quantizeBody_ratio (b : Block) : (quantizeBody b).ratio = b.ratio := by unfold quantizeBody; split <;> rfl
@[simp] theorem quantizeBody_inp (b : Block) : (quantizeBody b).inp = b.inp := by unfold quantizeBody; split <;> rfl
@[simp] theorem quantizeBody_out (b : Block) : (quantizeBody b).out = b.out := by unfold quantizeBody; split <;> rfl
@[simp] theorem quantizeBody_x (b : Block) : (quantizeBody b).x = b.x := by unfold quantizeBody; split <;> rfl
@[simp] theorem quantizeBody_y (b : Block) : (quantizeBody b).y = b.y := by unfold quantizeBody; split <;> rfl
@[simp] theorem quantizeBody_pending (b : Block) : (quantizeBody b).pending = b.pending := by unfold quantizeBody; split <;> rfl
@[simp] theorem quantizeBody_status_busy (b : Block) : (quantizeBody b).status.busy = b.status.busy := by unfold quantizeBody; split <;> rfl
@[simp] theorem quantizeBody_status_done (b : Block) : (quantizeBody b).status.done = b.status.done := by unfold quantizeBody; split <;> rfl
@[simp] theorem quantizeBody_status_voiced (b : Block) : (quantizeBody b).status.voiced = b.status.voiced := by unfold quantizeBody; split <;> rfl
@[simp] theorem quantizeBody_status_inRange (b : Block) : (quantizeBody b).status.inRange = b.status.inRange := by unfold quantizeBody; split <;> rfl
@[simp] theorem quantizeBody_status_shifted (b : Block) : (quantizeBody b).status.shifted = b.status.shifted := by unfold quantizeBody; split <;> rfl
@[simp] theorem quantizeBody_status_errIllegal (b : Block) : (quantizeBody b).status.errIllegal = b.status.errIllegal := by unfold quantizeBody; split <;> rfl
@[simp] theorem quantizeBody_status_errBusy (b : Block) : (quantizeBody b).status.errBusy = b.status.errBusy := by unfold quantizeBody; split <;> rfl
@[simp] theorem quantizeBody_status_errAccess (b : Block) : (quantizeBody b).status.errAccess = b.status.errAccess := by unfold quantizeBody; split <;> rfl

/-! ## ratioBody -/

@[simp] theorem ratioBody_ctrl (b : Block) : (ratioBody b).ctrl = b.ctrl := by unfold ratioBody; split <;> rfl
@[simp] theorem ratioBody_cmd (b : Block) : (ratioBody b).cmd = b.cmd := by unfold ratioBody; split <;> rfl
@[simp] theorem ratioBody_energy (b : Block) : (ratioBody b).energy = b.energy := by unfold ratioBody; split <;> rfl
@[simp] theorem ratioBody_maxcorr (b : Block) : (ratioBody b).maxcorr = b.maxcorr := by unfold ratioBody; split <;> rfl
@[simp] theorem ratioBody_bestlag (b : Block) : (ratioBody b).bestlag = b.bestlag := by unfold ratioBody; split <;> rfl
@[simp] theorem ratioBody_freq (b : Block) : (ratioBody b).freq = b.freq := by unfold ratioBody; split <;> rfl
@[simp] theorem ratioBody_noteidx (b : Block) : (ratioBody b).noteidx = b.noteidx := by unfold ratioBody; split <;> rfl
@[simp] theorem ratioBody_target (b : Block) : (ratioBody b).target = b.target := by unfold ratioBody; split <;> rfl
@[simp] theorem ratioBody_ratio (b : Block) : (ratioBody b).ratio = (if ratioOperandOk b.target b.freq then fdiv b.target b.freq else b.ratio) := by unfold ratioBody; split <;> rfl
@[simp] theorem ratioBody_inp (b : Block) : (ratioBody b).inp = b.inp := by unfold ratioBody; split <;> rfl
@[simp] theorem ratioBody_out (b : Block) : (ratioBody b).out = b.out := by unfold ratioBody; split <;> rfl
@[simp] theorem ratioBody_x (b : Block) : (ratioBody b).x = b.x := by unfold ratioBody; split <;> rfl
@[simp] theorem ratioBody_y (b : Block) : (ratioBody b).y = b.y := by unfold ratioBody; split <;> rfl
@[simp] theorem ratioBody_pending (b : Block) : (ratioBody b).pending = b.pending := by unfold ratioBody; split <;> rfl
@[simp] theorem ratioBody_status_busy (b : Block) : (ratioBody b).status.busy = b.status.busy := by unfold ratioBody; split <;> rfl
@[simp] theorem ratioBody_status_done (b : Block) : (ratioBody b).status.done = b.status.done := by unfold ratioBody; split <;> rfl
@[simp] theorem ratioBody_status_voiced (b : Block) : (ratioBody b).status.voiced = b.status.voiced := by unfold ratioBody; split <;> rfl
@[simp] theorem ratioBody_status_inRange (b : Block) : (ratioBody b).status.inRange = b.status.inRange := by unfold ratioBody; split <;> rfl
@[simp] theorem ratioBody_status_shifted (b : Block) : (ratioBody b).status.shifted = b.status.shifted := by unfold ratioBody; split <;> rfl
@[simp] theorem ratioBody_status_errIllegal (b : Block) : (ratioBody b).status.errIllegal = b.status.errIllegal := by unfold ratioBody; split <;> rfl
@[simp] theorem ratioBody_status_errBusy (b : Block) : (ratioBody b).status.errBusy = b.status.errBusy := by unfold ratioBody; split <;> rfl
@[simp] theorem ratioBody_status_errAccess (b : Block) : (ratioBody b).status.errAccess = b.status.errAccess := by unfold ratioBody; split <;> rfl

/-! ## shiftBody -/

@[simp] theorem shiftBody_ctrl (b : Block) : (shiftBody b).ctrl = b.ctrl := by unfold shiftBody; split <;> (try split) <;> rfl
@[simp] theorem shiftBody_cmd (b : Block) : (shiftBody b).cmd = b.cmd := by unfold shiftBody; split <;> (try split) <;> rfl
@[simp] theorem shiftBody_energy (b : Block) : (shiftBody b).energy = b.energy := by unfold shiftBody; split <;> (try split) <;> rfl
@[simp] theorem shiftBody_maxcorr (b : Block) : (shiftBody b).maxcorr = b.maxcorr := by unfold shiftBody; split <;> (try split) <;> rfl
@[simp] theorem shiftBody_bestlag (b : Block) : (shiftBody b).bestlag = b.bestlag := by unfold shiftBody; split <;> (try split) <;> rfl
@[simp] theorem shiftBody_freq (b : Block) : (shiftBody b).freq = b.freq := by unfold shiftBody; split <;> (try split) <;> rfl
@[simp] theorem shiftBody_noteidx (b : Block) : (shiftBody b).noteidx = b.noteidx := by unfold shiftBody; split <;> (try split) <;> rfl
@[simp] theorem shiftBody_target (b : Block) : (shiftBody b).target = b.target := by unfold shiftBody; split <;> (try split) <;> rfl
@[simp] theorem shiftBody_ratio (b : Block) : (shiftBody b).ratio = b.ratio := by unfold shiftBody; split <;> (try split) <;> rfl
@[simp] theorem shiftBody_inp (b : Block) : (shiftBody b).inp = b.inp := by unfold shiftBody; split <;> (try split) <;> rfl
@[simp] theorem shiftBody_out (b : Block) : (shiftBody b).out = b.out := by unfold shiftBody; split <;> (try split) <;> rfl
@[simp] theorem shiftBody_x (b : Block) : (shiftBody b).x = b.x := by unfold shiftBody; split <;> (try split) <;> rfl
@[simp] theorem shiftBody_pending (b : Block) : (shiftBody b).pending = b.pending := by unfold shiftBody; split <;> (try split) <;> rfl
@[simp] theorem shiftBody_status_busy (b : Block) : (shiftBody b).status.busy = b.status.busy := by unfold shiftBody; split <;> (try split) <;> rfl
@[simp] theorem shiftBody_status_done (b : Block) : (shiftBody b).status.done = b.status.done := by unfold shiftBody; split <;> (try split) <;> rfl
@[simp] theorem shiftBody_status_voiced (b : Block) : (shiftBody b).status.voiced = b.status.voiced := by unfold shiftBody; split <;> (try split) <;> rfl
@[simp] theorem shiftBody_status_inRange (b : Block) : (shiftBody b).status.inRange = b.status.inRange := by unfold shiftBody; split <;> (try split) <;> rfl
@[simp] theorem shiftBody_status_errIllegal (b : Block) : (shiftBody b).status.errIllegal = b.status.errIllegal := by unfold shiftBody; split <;> (try split) <;> rfl
@[simp] theorem shiftBody_status_errBusy (b : Block) : (shiftBody b).status.errBusy = b.status.errBusy := by unfold shiftBody; split <;> (try split) <;> rfl
@[simp] theorem shiftBody_status_errAccess (b : Block) : (shiftBody b).status.errAccess = b.status.errAccess := by unfold shiftBody; split <;> (try split) <;> rfl

/-! ## noNote -/

@[simp] theorem noNote_ctrl (b : Block) : (b.noNote).ctrl = b.ctrl := rfl
@[simp] theorem noNote_cmd (b : Block) : (b.noNote).cmd = b.cmd := rfl
@[simp] theorem noNote_energy (b : Block) : (b.noNote).energy = b.energy := rfl
@[simp] theorem noNote_maxcorr (b : Block) : (b.noNote).maxcorr = b.maxcorr := rfl
@[simp] theorem noNote_bestlag (b : Block) : (b.noNote).bestlag = b.bestlag := rfl
@[simp] theorem noNote_freq (b : Block) : (b.noNote).freq = b.freq := rfl
@[simp] theorem noNote_noteidx (b : Block) : (b.noNote).noteidx = 0xF#4 := rfl
@[simp] theorem noNote_target (b : Block) : (b.noNote).target = zeroF := rfl
@[simp] theorem noNote_ratio (b : Block) : (b.noNote).ratio = oneF := rfl
@[simp] theorem noNote_inp (b : Block) : (b.noNote).inp = b.inp := rfl
@[simp] theorem noNote_out (b : Block) : (b.noNote).out = b.out := rfl
@[simp] theorem noNote_x (b : Block) : (b.noNote).x = b.x := rfl
@[simp] theorem noNote_y (b : Block) : (b.noNote).y = b.x := rfl
@[simp] theorem noNote_pending (b : Block) : (b.noNote).pending = b.pending := rfl
@[simp] theorem noNote_status_busy (b : Block) : (b.noNote).status.busy = b.status.busy := rfl
@[simp] theorem noNote_status_done (b : Block) : (b.noNote).status.done = b.status.done := rfl
@[simp] theorem noNote_status_voiced (b : Block) : (b.noNote).status.voiced = b.status.voiced := rfl
@[simp] theorem noNote_status_inRange (b : Block) : (b.noNote).status.inRange = b.status.inRange := rfl
@[simp] theorem noNote_status_shifted (b : Block) : (b.noNote).status.shifted = false := rfl
@[simp] theorem noNote_status_errIllegal (b : Block) : (b.noNote).status.errIllegal = b.status.errIllegal := rfl
@[simp] theorem noNote_status_errBusy (b : Block) : (b.noNote).status.errBusy = b.status.errBusy := rfl
@[simp] theorem noNote_status_errOperand (b : Block) : (b.noNote).status.errOperand = b.status.errOperand := rfl
@[simp] theorem noNote_status_errAccess (b : Block) : (b.noNote).status.errAccess = b.status.errAccess := rfl

/-! ## The error bit of a failed operand check -/

@[simp] theorem quantizeBody_status_errOperand (b : Block) : (quantizeBody b).status.errOperand = (b.status.errOperand || !quantizeOperandOk b.freq) := by unfold quantizeBody; split <;> simp_all
@[simp] theorem ratioBody_status_errOperand (b : Block) : (ratioBody b).status.errOperand = (b.status.errOperand || !ratioOperandOk b.target b.freq) := by unfold ratioBody; split <;> simp_all
@[simp] theorem shiftBody_status_errOperand (b : Block) : (shiftBody b).status.errOperand = (b.status.errOperand || !shiftOperandOk b.ratio) := by unfold shiftBody; split <;> (try split) <;> simp_all

/-! ## The state around the block -/

@[simp] theorem finish_block (s : State) (f : Block → Block) : (s.finish f).block = (f s.block).complete := rfl
@[simp] theorem finish_agenda (s : State) (f : Block → Block) : (s.finish f).agenda = s.agenda := rfl
@[simp] theorem finish_returned (s : State) (f : Block → Block) : (s.finish f).returned = s.returned := rfl
@[simp] theorem finish_draws (s : State) (f : Block → Block) : (s.finish f).draws = s.draws := rfl
@[simp] theorem resetBlock_block (s : State) : s.resetBlock.block = Block.reset := rfl
@[simp] theorem resetBlock_agenda (s : State) : s.resetBlock.agenda = s.agenda := rfl
@[simp] theorem resetBlock_returned (s : State) : s.resetBlock.returned = s.returned := rfl
@[simp] theorem resetBlock_draws (s : State) : s.resetBlock.draws = s.draws := rfl
@[simp] theorem busWrite_block (s : State) (a : Offset) (w : BitVec 3) (d : Word) : (s.busWrite a w d).block = s.block.busWrite a w d := rfl
@[simp] theorem busWrite_agenda (s : State) (a : Offset) (w : BitVec 3) (d : Word) : (s.busWrite a w d).agenda = s.agenda := rfl
@[simp] theorem busWrite_returned (s : State) (a : Offset) (w : BitVec 3) (d : Word) : (s.busWrite a w d).returned = s.returned := rfl
@[simp] theorem busWrite_draws (s : State) (a : Offset) (w : BitVec 3) (d : Word) : (s.busWrite a w d).draws = s.draws := rfl
@[simp] theorem returning_block (s : State) (v : Word) : (s.returning v).block = s.block := rfl
@[simp] theorem returning_agenda (s : State) (v : Word) : (s.returning v).agenda = s.agenda := rfl
@[simp] theorem returning_returned (s : State) (v : Word) : (s.returning v).returned = v :: s.returned := rfl
@[simp] theorem returning_draws (s : State) (v : Word) : (s.returning v).draws = s.draws := rfl

/-! ## Stores -/

@[simp] theorem store_ctrl (b : Block) (d : Word) : b.store .ctrl d = { b with ctrl := { irqEn := d.getLsbD 0 } } := rfl
@[simp] theorem store_status (b : Block) (d : Word) : b.store .status d = b.acknowledge d := rfl
@[simp] theorem store_freq (b : Block) (d : Word) : b.store .freq d = { b with freq := d } := rfl
@[simp] theorem store_target (b : Block) (d : Word) : b.store .target d = { b with target := d } := rfl
@[simp] theorem store_ratio (b : Block) (d : Word) : b.store .ratio d = { b with ratio := d } := rfl
@[simp] theorem store_inp (b : Block) (i : Fin Config.frameSize) (d : Word) : b.store (.inp i) d = { b with inp := Frame.put b.inp i (d.extractLsb' 0 16) } := rfl
@[simp] theorem store_y (b : Block) (i : Fin Config.frameSize) (d : Word) : b.store (.y i) d = { b with y := Frame.put b.y i d } := rfl

end Sys2Proof.Machine
end

