-- ==== Sys2Proof/Laws/Step.lean ====
section
/-! SUPPORT. What an execution, a transaction and a step can do, said once. -/

namespace Sys2Proof.Machine

/-- The body of each command (40_command_lifecycle.md R121). -/
def bodyOf (i : Instr) : Block → Block :=
  match i with
  | .nop => nopBody
  | .convert => convertBody
  | .detect => detectBody
  | .quantize => quantizeBody
  | .ratio => ratioBody
  | .shift => shiftBody
  | .clamp => clampBody
  | .pass => passBody
  | .process => processBody

/-- Every command answers a next state: its body, then the completion. -/
theorem exec_eq (i : Instr) (s : State) : exec i s = .next (s.finish (bodyOf i)) := by cases i <;> rfl

/-- The inversion of `exec`. -/
theorem exec_next {i : Instr} {s t : State} (h : exec i s = .next t) : t = s.finish (bodyOf i) := by
  rw [exec_eq] at h
  exact (Host.Outcome.next.inj h).symm

/-- An access that is no access error is 4 bytes wide, aligned, at a location of the map. -/
theorem accessLoc_some {a : Offset} {w : BitVec 3} {l : Loc} (h : accessLoc a w = some l) :
    w = 4#3 ∧ a.toNat % 4 = 0 ∧ locate a = some l := by
  unfold accessLoc at h
  split at h
  · exact ⟨‹_ ∧ _›.1, ‹_ ∧ _›.2, h⟩
  · cases h

/-- A write to CMD while idle: acceptance of the decoded command, or ERR_ILLEGAL. -/
theorem issue_cases (b : Block) (w : Word) :
    (∃ i, decode w = .ok i ∧ b.issue w = b.accept w i) ∨ ((∃ e, decode w = .error e) ∧ b.issue w = b.raiseError .illegal) := by
  unfold Block.issue
  cases h : decode w with
  | ok i => exact .inl ⟨i, rfl, rfl⟩
  | error e => exact .inr ⟨⟨e, rfl⟩, rfl⟩

/-- Everything a write can do to the block, in the order of 60_exceptions.md R248. -/
theorem busWrite_cases (b : Block) (a : Offset) (w : BitVec 3) (d : Word) :
    (accessLoc a w = none ∧ b.busWrite a w d = b.raiseError .access) ∨
    (∃ l, accessLoc a w = some l ∧ b.status.busy = true ∧ l.isGuarded = true ∧ b.busWrite a w d = b.raiseError .busy) ∨
    (accessLoc a w = some .cmd ∧ b.status.busy = false ∧ b.busWrite a w d = b.issue d) ∨
    (∃ l, accessLoc a w = some l ∧ l ≠ .cmd ∧ (b.status.busy = true → l.isGuarded = false) ∧ b.busWrite a w d = b.store l d) := by
  unfold Block.busWrite
  cases h : accessLoc a w with
  | none => exact .inl ⟨rfl, rfl⟩
  | some l =>
    by_cases hg : (b.status.busy && l.isGuarded) = true
    · have hb := Bool.and_eq_true_iff.mp hg
      exact .inr (.inl ⟨l, rfl, hb.1, hb.2, by simp [hg]⟩)
    · by_cases hc : l = .cmd
      · subst hc
        have hb : b.status.busy = false := by simpa [Loc.isGuarded] using hg
        exact .inr (.inr (.inl ⟨rfl, hb, by simp [hb]⟩))
      · exact .inr (.inr (.inr ⟨l, rfl, hc, fun hb => by simpa [hb] using hg, by simp [hg, hc]⟩))

/-- A read changes nothing of the block but ERR_ACCESS, on an access error. -/
theorem busRead_block (s : State) (a : Offset) (w : BitVec 3) :
    (s.busRead a w).block = if accessLoc a w = none then s.block.raiseError .access else s.block := by
  unfold State.busRead
  cases h : accessLoc a w with
  | none => rfl
  | some l =>
    simp only [reduceCtorEq, if_false]
    split
    · split
      · rfl
      · split <;> rfl
    · rfl

/-- Every read returns exactly one word to the host. -/
theorem busRead_returns (s : State) (a : Offset) (w : BitVec 3) : ∃ v, (s.busRead a w).returned = v :: s.returned := by
  unfold State.busRead
  split
  · exact ⟨_, rfl⟩
  · split
    · split
      · exact ⟨_, rfl⟩
      · split <;> exact ⟨_, rfl⟩
    · exact ⟨_, rfl⟩

@[simp] theorem busRead_agenda (s : State) (a : Offset) (w : BitVec 3) : (s.busRead a w).agenda = s.agenda := by
  unfold State.busRead
  split
  · rfl
  · split
    · split
      · rfl
      · split <;> rfl
    · rfl

@[simp] theorem transact_agenda (s : State) (t : Transaction) : (s.transact t).agenda = s.agenda := by
  cases t with
  | read a w => exact busRead_agenda s a w
  | write a w d => rfl

/-- The engine's turn: nothing, or the pending command. -/
theorem engineTurn_eq (s : State) :
    engineTurn s = .next (match s.block.pending with | none => s | some i => s.finish (bodyOf i)) := by
  unfold engineTurn
  cases s.block.pending with
  | none => rfl
  | some i => exact exec_eq i s

/-- Everything a step can do. -/
theorem step_cases {s t : State} (h : step s = .next t) :
    (∃ rest, (s.agenda = .engine :: rest ∨ (s.agenda = [] ∧ rest = [])) ∧ s.block.pending = none ∧ t = { s with agenda := rest }) ∨
    (∃ i rest, (s.agenda = .engine :: rest ∨ (s.agenda = [] ∧ rest = [])) ∧ s.block.pending = some i ∧
      t = ({ s with agenda := rest }).finish (bodyOf i)) ∨
    (∃ tr rest, s.agenda = .bus tr :: rest ∧ t = ({ s with agenda := rest }).transact tr) ∨
    (∃ rest, s.agenda = .reset :: rest ∧ t = ({ s with agenda := rest }).resetBlock) := by
  obtain ⟨b, ag, re, dr⟩ := s
  cases ag with
  | nil =>
    simp only [step, engineTurn_eq] at h
    cases hp : b.pending with
    | none => exact .inl ⟨[], .inr ⟨rfl, rfl⟩, rfl, by simpa [hp] using h.symm⟩
    | some i => exact .inr (.inl ⟨i, [], .inr ⟨rfl, rfl⟩, rfl, by simpa [hp] using h.symm⟩)
  | cons e rest =>
    cases e with
    | engine =>
      simp only [step, engineTurn_eq] at h
      cases hp : b.pending with
      | none => exact .inl ⟨rest, .inl rfl, rfl, by simpa [hp] using h.symm⟩
      | some i => exact .inr (.inl ⟨i, rest, .inl rfl, rfl, by simpa [hp] using h.symm⟩)
    | bus tr => exact .inr (.inr (.inl ⟨tr, rest, rfl, (Host.Outcome.next.inj h).symm⟩))
    | reset => exact .inr (.inr (.inr ⟨rest, rfl, (Host.Outcome.next.inj h).symm⟩))

end Sys2Proof.Machine
end

