-- ==== Sys2Proof/Laws/Driver.lean ====
section
/-! SUPPORT. What a transaction and a WAIT of a host program do, said once. -/

namespace Sys2Proof.Driver

open Sys2Proof.Machine

/-- The state after the engine's turn. -/
def afterTurn (s : State) : State :=
  match s.block.pending with
  | none => s
  | some i => s.finish (bodyOf i)

theorem afterTurn_none {s : State} (h : s.block.pending = none) : afterTurn s = s := by simp [afterTurn, h]

theorem afterTurn_some {s : State} {i : Instr} (h : s.block.pending = some i) : afterTurn s = s.finish (bodyOf i) := by
  simp [afterTurn, h]

/-- A transaction never stops the machine, whose other events stay. -/
theorem perform_eq (t : Transaction) (r : Run) : perform t r =
    some { state := (if r.turns.headD true then afterTurn r.state else r.state).transact t, turns := r.turns.tail } := by
  obtain ⟨⟨b, ag, re, dr⟩, turns⟩ := r
  simp only [perform, events]
  by_cases hd : turns.headD true = true
  · rw [if_pos hd, if_pos hd]
    cases hp : b.pending <;>
      simp [Host.Core.run, Sys2Proof.core, step, engineTurn_eq, hp, afterTurn, State.finish]
  · rw [if_neg hd, if_neg hd]
    simp [Host.Core.run, Sys2Proof.core, step]

/-- A WAIT reads STATUS once more where that read finds BUSY = 1. -/
theorem wait_cons (engineFirst : Bool) (rest : List Bool) (s : State) : wait (engineFirst :: rest) s =
    (let t := (if engineFirst then afterTurn s else s).transact (rd Loc.status.offset)
     if (t.returned.headD 0#32).getLsbD 0 then wait rest t else some { state := t, turns := rest }) := by
  rw [wait, perform_eq]
  rfl

/-- Past the given turns a WAIT ends with one read after the engine's turn. -/
theorem wait_nil (s : State) : wait [] s =
    (let t := (afterTurn s).transact (rd Loc.status.offset)
     if (t.returned.headD 0#32).getLsbD 0 then none else some { state := t, turns := [] }) := by
  rw [wait, perform_eq]
  rfl

end Sys2Proof.Driver
end

