-- ==== Sys2Proof/Laws/Float.lean ====
section
/-! SUPPORT. Small laws of the binary32 functions: what a packed pattern holds, what rounding can give, the primitives on finite data. -/

namespace Sys2Proof.Machine

theorem signBit_eq (w : Word) : signBit w = decide (2 ^ 31 ≤ w.toNat) := by
  simp [signBit, BitVec.msb_eq_decide]

theorem magBits_lt (w : Word) : magBits w < 2 ^ 31 := Nat.mod_lt _ (by decide)

theorem fracBits_lt (w : Word) : fracBits w < 2 ^ 23 := Nat.mod_lt _ (by decide)

theorem expBits_lt (w : Word) : expBits w < 256 := by
  have := magBits_lt w
  unfold expBits
  omega

/-- A pattern is its exponent above its fraction. -/
theorem magBits_split (w : Word) : magBits w = expBits w * 2 ^ 23 + fracBits w := by
  unfold expBits fracBits
  omega

theorem toNat_pack (neg : Bool) {m : Nat} (h : m < 2 ^ 31) : (pack neg m).toNat = if neg then 2 ^ 31 + m else m := by
  cases neg <;> simp [pack] <;> omega

theorem magBits_pack (neg : Bool) {m : Nat} (h : m < 2 ^ 31) : magBits (pack neg m) = m := by
  unfold magBits
  rw [toNat_pack neg h]
  cases neg <;> simp <;> omega

theorem signBit_pack (neg : Bool) {m : Nat} (h : m < 2 ^ 31) : signBit (pack neg m) = neg := by
  rw [signBit_eq, toNat_pack neg h]
  cases neg
  · simp
    omega
  · simp

/-- Rounding moves to one of the two neighbouring integers. -/
theorem roundHalfEven_bounds (n d : Nat) : n / d ≤ roundHalfEven n d ∧ roundHalfEven n d ≤ n / d + 1 := by
  unfold roundHalfEven
  split
  · omega
  · split
    · omega
    · have := Nat.mod_lt (n / d) (show 0 < 2 by decide)
      omega

/-- An exact quotient is not moved. -/
theorem roundHalfEven_exact (q : Nat) {d : Nat} (hd : 0 < d) : roundHalfEven (q * d) d = q := by
  unfold roundHalfEven
  simp [Nat.mul_mod_left, hd]

theorem roundMag_le (n d : Nat) : roundMag n d ≤ 0x7F800000 := Nat.min_le_right _ _

/-- Rounding never gives a NaN. -/
theorem roundUnits_not_nan (neg : Bool) (n d : Nat) : isNaN (roundUnits neg n d) = false := by
  have hle := roundMag_le n d
  have hm : magBits (roundUnits neg n d) = roundMag n d := magBits_pack neg (by omega)
  unfold isNaN expBits fracBits
  rw [hm]
  simp only [Bool.and_eq_false_iff, beq_eq_false_iff_ne, bne_eq_false_iff_eq]
  omega

/-- An infinity, a NaN and a finite datum exclude each other and leave nothing out. -/
theorem datum_cases (w : Word) :
    (isFinite w = true ∧ isNaN w = false ∧ isInf w = false) ∨ (isFinite w = false ∧ isNaN w = true ∧ isInf w = false) ∨
      (isFinite w = false ∧ isNaN w = false ∧ isInf w = true) := by
  unfold isFinite isNaN isInf
  by_cases h : expBits w = 255 <;> by_cases g : fracBits w = 0 <;> simp [h, g]

theorem finite_not_nan {w : Word} (h : isFinite w = true) : isNaN w = false := by
  rcases datum_cases w with c | c | c
  · exact c.2.1
  · rw [c.1] at h; cases h
  · exact c.2.1

theorem fadd_finite {a b : Word} (ha : isFinite a = true) (hb : isFinite b = true) : fadd a b = addFinite a b := by
  simp [fadd, ha, hb]

theorem fsub_finite {a b : Word} (ha : isFinite a = true) (hb : isFinite b = true) : fsub a b = addFinite a (negate b) := by
  simp [fsub, ha, hb]

theorem fmul_finite {a b : Word} (ha : isFinite a = true) (hb : isFinite b = true) :
    fmul a b = roundUnits (signBit a != signBit b) (magUnits a * magUnits b) (2 ^ 149) := by
  simp only [fmul, ha, hb, Bool.and_self, if_true]

theorem fdiv_finite {a b : Word} (ha : isFinite a = true) (hb : isFinite b = true) (h0 : magUnits b ≠ 0) :
    fdiv a b = roundUnits (signBit a != signBit b) (magUnits a * 2 ^ 149) (magUnits b) := by
  have : (magUnits b != 0) = true := by simpa using h0
  simp only [fdiv, ha, hb, this, Bool.and_self, if_true]

theorem flt_eq {a b : Word} (ha : isNaN a = false) (hb : isNaN b = false) : flt a b = decide (orderKey a < orderKey b) := by
  simp [flt, ha, hb]

theorem fle_eq {a b : Word} (ha : isNaN a = false) (hb : isNaN b = false) : fle a b = decide (orderKey a ≤ orderKey b) := by
  simp [fle, ha, hb]

@[simp] theorem forced_eq {α : Type} (w : Word) (k : Word → α) : forced w k = k w := by
  unfold forced
  split
  · rename_i h
    have : w = 0#32 := BitVec.eq_of_toNat_eq h
    rw [this]
  · rename_i n h
    rw [show n + 1 = w.toNat from h.symm, BitVec.ofNat_toNat, BitVec.setWidth_eq]

/-- The sum of products as the loop of 00_scope.md R13. -/
theorem sumProducts_eq_foldl (acc : Word) (ps : List (Word × Word)) :
    sumProducts acc ps = ps.foldl (fun a p => fadd a (fmul p.1 p.2)) acc := by
  induction ps generalizing acc with
  | nil => rfl
  | cons p rest ih => simp [sumProducts, ih]

/-- The pairs at a lag are (X[i], X[i+L]) for i from 0 to N - L - 1 (41_autocorrelation_engine.md R143). -/
theorem lagPairs_length (xs : List Word) (lag : Nat) : (lagPairs xs lag).length = xs.length - lag := by
  simp [lagPairs]

theorem lagPairs_get (xs : List Word) (lag i : Nat) (h : i < (lagPairs xs lag).length) :
    (lagPairs xs lag)[i] = (xs[i]'(by rw [lagPairs_length] at h; omega), xs[i + lag]'(by rw [lagPairs_length] at h; omega)) := by
  simp [lagPairs, Nat.add_comm]

/-- One lag of the search. -/
theorem visitAll_cons (p : Peak) (xs : List Word) (e : Word) (lag : Nat) (rest : List Nat) :
    p.visitAll xs e (lag :: rest) =
      (if flt p.best (corrOf xs e lag) then { best := corrOf xs e lag, lag := lag } else p : Peak).visitAll xs e rest := by
  simp only [Peak.visitAll, forced_eq]
  cases flt p.best (corrOf xs e lag) <;> rfl

/-- The search in two parts. -/
theorem visitAll_append (p : Peak) (xs : List Word) (e : Word) (ls rs : List Nat) :
    p.visitAll xs e (ls ++ rs) = (p.visitAll xs e ls).visitAll xs e rs := by
  induction ls generalizing p with
  | nil => rfl
  | cons lag rest ih => simp only [List.cons_append, visitAll_cons, ih]

/-- Lags that do not beat the maximum leave it. -/
theorem visitAll_of_not_greater (p : Peak) (xs : List Word) (e : Word) (ls : List Nat)
    (h : ∀ lag ∈ ls, flt p.best (corrOf xs e lag) = false) : p.visitAll xs e ls = p := by
  induction ls with
  | nil => rfl
  | cons lag rest ih =>
    rw [visitAll_cons, h lag (by simp)]
    exact ih fun l hl => h l (by simp [hl])

/-- The search of 41_autocorrelation_engine.md R140. -/
theorem findPeak_eq (xs : List Word) (e : Word) :
    findPeak xs e = if isZero e then { best := zeroF, lag := 0 }
      else Peak.visitAll { best := zeroF, lag := 0 } xs e (List.range' 1 (Config.lagLimit - 1)) := by
  simp [findPeak]

theorem quantizeBody_ok {b : Block} (h : quantizeOperandOk b.freq = true) :
    quantizeBody b = { b with noteidx := BitVec.ofNat 4 (nearestNote b.freq).val, target := Config.scale (nearestNote b.freq) } := by
  simp [quantizeBody, h]

theorem quantizeBody_bad {b : Block} (h : quantizeOperandOk b.freq = false) : quantizeBody b = b.raiseError .operand := by
  simp [quantizeBody, h]

theorem ratioBody_ok {b : Block} (h : ratioOperandOk b.target b.freq = true) :
    ratioBody b = { b with ratio := fdiv b.target b.freq } := by
  simp [ratioBody, h]

theorem ratioBody_bad {b : Block} (h : ratioOperandOk b.target b.freq = false) : ratioBody b = b.raiseError .operand := by
  simp [ratioBody, h]

/-- Everything SHIFT's body can do: the error, the copy, the resampling. -/
theorem shiftBody_cases (b : Block) :
    (shiftOperandOk b.ratio = false ∧ shiftBody b = b.raiseError .operand) ∨
    (shiftOperandOk b.ratio = true ∧ shiftedFlag b.ratio = false ∧
      shiftBody b = { b with y := b.x, status := { b.status with shifted := false } }) ∨
    (shiftOperandOk b.ratio = true ∧ shiftedFlag b.ratio = true ∧
      shiftBody b = { b with y := Frame.tabulate (interp b.x b.ratio), status := { b.status with shifted := true } }) := by
  unfold shiftBody
  cases h : shiftOperandOk b.ratio
  · exact .inl ⟨rfl, by simp⟩
  · cases g : shiftedFlag b.ratio
    · exact .inr (.inl ⟨rfl, rfl, by simp⟩)
    · exact .inr (.inr ⟨rfl, rfl, by simp⟩)

end Sys2Proof.Machine
end

