-- ==== Sys2Proof/Laws/PerInstr.lean ====
section
/-! SUPPORT. Laws of every command as syntax: its word is legal and decodes to it. -/

namespace Sys2Proof.Laws.EncodedWord

/-- The command's word is legal, carries its opcode, and decodes to it (30_encoding.md R101). -/
def Statement (i : Instr) : Prop :=
  i.WellFormed ∧ CommandWord.WellFormed (encode i) ∧ (encode i).toNat = i.opcode ∧ decode (encode i) = .ok i

theorem nop : Statement .nop := ⟨by decide, by decide, rfl, rfl⟩
theorem convert : Statement .convert := ⟨by decide, by decide, rfl, rfl⟩
theorem detect : Statement .detect := ⟨by decide, by decide, rfl, rfl⟩
theorem quantize : Statement .quantize := ⟨by decide, by decide, rfl, rfl⟩
theorem ratio : Statement .ratio := ⟨by decide, by decide, rfl, rfl⟩
theorem shift : Statement .shift := ⟨by decide, by decide, rfl, rfl⟩
theorem clamp : Statement .clamp := ⟨by decide, by decide, rfl, rfl⟩
theorem pass : Statement .pass := ⟨by decide, by decide, rfl, rfl⟩
theorem process : Statement .process := ⟨by decide, by decide, rfl, rfl⟩

end Sys2Proof.Laws.EncodedWord
end

