-- ==== Sys2Proof/Tests/Slice0.lean ====
section
/-! SUPPORT. Tests of the model: decoding, well-formedness, one step of each command and access, with expected values from
spec/95_test_vectors.md; and, for each statement with hypotheses, a state that meets them. -/

namespace Sys2Proof.Tests

open Sys2Proof.Machine Sys2Proof.Spec

/-! ## Decoding: words written out from 30_encoding.md R100, R101 -/

theorem test_decode_nop : decode 0b00000000000000000000000000000000#32 = .ok .nop := by decide
theorem test_decode_convert : decode 0b00000000000000000000000000000001#32 = .ok .convert := by decide
theorem test_decode_detect : decode 0b00000000000000000000000000000010#32 = .ok .detect := by decide
theorem test_decode_quantize : decode 0b00000000000000000000000000000011#32 = .ok .quantize := by decide
theorem test_decode_ratio : decode 0b00000000000000000000000000000100#32 = .ok .ratio := by decide
theorem test_decode_shift : decode 0b00000000000000000000000000000101#32 = .ok .shift := by decide
theorem test_decode_clamp : decode 0b00000000000000000000000000000110#32 = .ok .clamp := by decide
theorem test_decode_pass : decode 0b00000000000000000000000000000111#32 = .ok .pass := by decide
theorem test_decode_process : decode 0b00000000000000000000000000001000#32 = .ok .process := by decide
theorem test_decode_refuses_opcode_9 : decode 0x00000009#32 = .error .reservedOpcode := by decide
theorem test_decode_refuses_bit_8 : decode 0x00000100#32 = .error .reservedBits := by decide
theorem test_decode_lanes : decodeBytes [0x08#8, 0x00#8, 0x00#8, 0x00#8] = .ok .process := by decide
theorem test_decode_refuses_short : decodeBytes [0x08#8] = .error .notOneWord := by decide
theorem test_decode_table_word : decodeTableWord 32 5 = some .shift := by decide

/-! ## Well-formedness: each check refuses an ill-formed term (30_encoding.md R102, 20_memory.md R82, R83) -/

theorem test_wf_word : CommandWord.WellFormed 0x00000008#32 := by decide
theorem test_wf_refuses_reserved_bits : ¬ CommandWord.WellFormed 0x80000000#32 := by decide
theorem test_wf_refuses_opcode : ¬ CommandWord.WellFormed 0x00000009#32 := by decide
theorem test_wf_access : (Transaction.read 0x00B0#16 4#3).WellFormed := by decide
theorem test_wf_refuses_width : ¬ (Transaction.read 0x0000#16 2#3).WellFormed := by decide
theorem test_wf_refuses_misaligned : ¬ (Transaction.write 0x1002#16 4#3 0#32).WellFormed := by decide
theorem test_wf_refuses_reserved : ¬ (Transaction.read 0x002C#16 4#3).WellFormed := by decide

/-! ## One step of each command -/

/-- The block after the engine's step of a command accepted in `b`. -/
def blockAfter (i : Instr) (b : Block) : Option Block :=
  match step { State.reset with block := b.accept (encode i) i } with
  | .next t => some t.block
  | _ => none

/-- The state after one event on a block. -/
def stateAfter (e : Event) (b : Block) : Option State :=
  match step { State.reset with block := b, agenda := [e] } with
  | .next t => some t
  | _ => none

/-- The reset block with two samples put into IN. -/
def blockIn (v0 v1 : Sample) : Block := { Block.reset with inp := Frame.put (Frame.put (Frame.fill 0#16) 0 v0) 1 v1 }

/-- The reset block with two samples put into X. -/
def blockX (v0 v1 : Word) : Block := { Block.reset with x := Frame.put (Frame.put (Frame.fill 0#32) 0 v0) 1 v1 }

/-- The reset block with two words put into Y. -/
def blockY (v0 v1 : Word) : Block := { Block.reset with y := Frame.put (Frame.put (Frame.fill 0#32) 0 v0) 1 v1 }

/-- NP-1. -/
theorem test_nop : (blockAfter .nop Block.reset).map (fun b => (b.status.toWord, b.cmd)) = some (0x002#32, 0#32) := by
  decide +kernel

/-- CV-7, CV-8. -/
theorem test_convert :
    (blockAfter .convert (blockIn 0x8000#16 0xCFC7#16)).map (fun b => (b.x[0], b.x[1])) = some (0xBF800000#32, 0xBEC0E400#32) := by
  decide +kernel

/-- CV-2, CV-6. -/
theorem test_convert_ends :
    (blockAfter .convert (blockIn 1#16 0x7FFF#16)).map (fun b => (b.x[0], b.x[1])) = some (0x38000000#32, 0x3F7FFE00#32) := by
  decide +kernel

/-- DT-5: the energy, and r(1) exactly 0.5, which is unvoiced (the zeros of the frame left off). -/
theorem test_detect_energy_and_threshold :
    energyOf [0x3F000000#32, 0x3F000000#32, 0#32] = 0x3F000000#32 ∧
      corrOf [0x3F000000#32, 0x3F000000#32, 0#32] 0x3F000000#32 1 = 0x3F000000#32 ∧ voicedFlag 0x3F000000#32 = false := by
  decide +kernel

/-- DT-22's registers from its energy and peak: 44100/105 = 420. -/
theorem test_detect_estimate :
    (Block.reset.writeEstimate 0x43A00D98#32 { best := 0x3F65B9E7#32, lag := 105 }).freq = 0x43D20000#32 ∧
      (Block.reset.writeEstimate 0x43A00D98#32 { best := 0x3F65B9E7#32, lag := 105 }).status.toWord = 0x00C#32 := by
  decide +kernel

/-- QZ-20 and QZ-21: a tie selects the lower entry, the next float the upper. -/
theorem test_quantize_tie :
    (blockAfter .quantize { Block.reset with freq := 0x4386B3D7#32 }).map (fun b => (b.noteidx, b.target)) =
      some (0#4, 0x4382D0A4#32) ∧
    (blockAfter .quantize { Block.reset with freq := 0x4386B3D8#32 }).map (fun b => (b.noteidx, b.target)) =
      some (1#4, 0x438A970A#32) := by
  decide +kernel

/-- QZ-17. -/
theorem test_quantize_nan :
    (blockAfter .quantize { Block.reset with freq := 0x7FC00000#32 }).map (fun b => (b.noteidx, b.status.toWord)) =
      some (15#4, 0x402#32) := by
  decide +kernel

/-- RT-1, RT-8: an ordinary quotient, and a subnormal one that is kept. -/
theorem test_ratio :
    (blockAfter .ratio { Block.reset with target := 0x43DC0000#32, freq := 0x43DC8000#32 }).map Block.ratio = some 0x3F7F6B64#32 ∧
    (blockAfter .ratio { Block.reset with target := 0x0DA24260#32, freq := 0x501502F9#32 }).map Block.ratio =
      some 0x000116C2#32 := by
  decide +kernel

/-- RT-11, RT-14: a divisor -0, and a quotient that overflows. -/
theorem test_ratio_refuses :
    (blockAfter .ratio { Block.reset with target := 0x43DC0000#32, freq := 0x80000000#32 }).map
      (fun b => (b.ratio, b.status.toWord)) = some (0x3F800000#32, 0x402#32) ∧
    (blockAfter .ratio { Block.reset with target := 0x7F61B1E6#32, freq := 0x3A83126F#32 }).map
      (fun b => (b.ratio, b.status.toWord)) = some (0x3F800000#32, 0x402#32) := by
  decide +kernel

/-- The first rows of SHIFT's table of Y for IN[i] = i and RATIO 0.5: position 0.5 lies between X[0] = 0 and X[1] = 2^-15. -/
theorem test_shift_half :
    (blockAfter .shift { blockX 0#32 0x38000000#32 with ratio := 0x3F000000#32 }).map
      (fun b => (b.y[1], b.y[2], b.status.toWord)) = some (0x37800000#32, 0x38000000#32, 0x012#32) := by
  decide +kernel

/-- SH-5, SH-6: the upper edge of the dead zone. -/
theorem test_shift_dead_zone :
    (blockAfter .shift { Block.reset with ratio := 0x3F8147AE#32 }).map (fun b => b.status.toWord) = some 0x002#32 ∧
    (blockAfter .shift { Block.reset with ratio := 0x3F8147AF#32 }).map (fun b => b.status.toWord) = some 0x012#32 := by
  decide +kernel

/-- CL-16, CL-17: half away from zero. -/
theorem test_clamp_half_away :
    (blockAfter .clamp (blockY 0x38A00000#32 0xB8A00000#32)).map (fun b => (b.out[0], b.out[1])) = some (3#16, 0xFFFD#16) := by
  decide +kernel

/-- CL-3, CL-29: saturation, and a NaN. -/
theorem test_clamp_saturates :
    (blockAfter .clamp (blockY 0x3F800000#32 0xFFC00000#32)).map (fun b => (b.out[0], b.out[1])) = some (0x7FFF#16, 0#16) := by
  decide +kernel

/-- PS-1. -/
theorem test_pass :
    (blockAfter .pass (blockIn 0xCFC7#16 0#16)).map (fun b => (b.out[0], b.x[0], b.status.toWord)) =
      some (0xCFC7#16, 0#32, 0x002#32) := by
  decide +kernel

/-- PR-10: the silent frame, and the registers of R222. -/
theorem test_process_silence :
    (blockAfter .process { Block.reset with noteidx := 3#4, ratio := 0#32 }).map
      (fun b => (b.status.toWord, b.noteidx, b.target, b.ratio, b.out[0])) = some (0x002#32, 15#4, 0#32, 0x3F800000#32, 0#16) := by
  decide +kernel

/-! ## The bus (program P4, and IN's note in 95_test_vectors.md 2.1) -/

theorem test_illegal_word :
    (stateAfter (.bus (.write 0x0008#16 4#3 0x09#32)) Block.reset).map (fun s => (s.block.status.toWord, s.block.cmd)) =
      some (0x100#32, 0#32) := by
  decide +kernel

theorem test_accept :
    (stateAfter (.bus (.write 0x0008#16 4#3 2#32)) Block.reset).map (fun s => (s.block.status.toWord, s.block.pending)) =
      some (0x001#32, some .detect) := by
  decide +kernel

theorem test_busy_write_dropped :
    (stateAfter (.bus (.write 0x1000#16 4#3 5#32)) (Block.reset.accept 2#32 .detect)).map
      (fun s => (s.block.status.toWord, s.block.inp[0])) = some (0x201#32, 0#16) := by
  decide +kernel

theorem test_misaligned_read :
    (stateAfter (.bus (.read 0x1002#16 4#3)) Block.reset).map (fun s => (s.block.status.toWord, s.returned)) =
      some (0x800#32, [0#32]) := by
  decide +kernel

theorem test_ack :
    (stateAfter (.bus (.write 0x000C#16 4#3 0xF02#32))
      { Block.reset with status := { Status.reset with done := true, errIllegal := true, errAccess := true, voiced := true } }).map
      (fun s => s.block.status.toWord) = some 0x004#32 := by
  decide +kernel

theorem test_in_keeps_16_bits :
    (stateAfter (.bus (.write 0x1004#16 4#3 0x00008000#32)) Block.reset).map (fun s => s.block.value (.inp 1)) =
      some 0xFFFF8000#32 := by
  decide +kernel

theorem test_irq :
    { Block.reset with ctrl := { irqEn := true }, status := { Status.reset with errBusy := true } }.irq = true ∧
      { Block.reset with status := { Status.reset with errBusy := true } }.irq = false := by
  decide

theorem test_fetch_word_runs : ∀ t, step (State.reset.withFetchWord 32 7) = .next t → t.block.status.done = true := by
  intro t h
  cases h
  decide +kernel

/-- `CMD NOP; RD STATUS`: the engine's turn may fall before the read or after it (93_implementation_defined.md U4). -/
theorem test_engine_falls_anywhere :
    (Driver.runProgram [.cmd .nop, .rd 0x000C#16] { state := State.reset, turns := [false, false] }).map
      (fun r => r.state.block.status.toWord) = some 0x00000001#32 ∧
    (Driver.runProgram [.cmd .nop, .rd 0x000C#16] { state := State.reset, turns := [false, true] }).map Driver.lastRead =
      some 0x00000002#32 := by
  decide +kernel

/-- WAIT on an idle block is one read, whatever turns are given (30_encoding.md R107). -/
theorem test_idle_wait_reads_once :
    (Driver.runProgram [.wait] { state := State.reset, turns := [false, false] }).map (fun r => r.state.returned) =
      some [0x00000000#32] := by
  decide +kernel

/-- f32(250), written in program P1. -/
theorem test_f32_literal : Driver.f32 250 1 = 0x437A0000#32 := by decide +kernel

/-! ## States that meet the statements' hypotheses -/

theorem finite_zero : FiniteDatum 0x00000000#32 := by unfold FiniteDatum expOf; decide
theorem finite_one : FiniteDatum 0x3F800000#32 := by unfold FiniteDatum expOf; decide
theorem not_finite_infinity : ¬ FiniteDatum 0x7F800000#32 := by unfold FiniteDatum expOf; decide

theorem val32_zero : val32 0x00000000#32 = 0 := by
  have he : expOf 0x00000000#32 = 0 := by decide
  have hf : fracOf 0x00000000#32 = 0 := by decide
  simp [val32, he, hf]

theorem val32_one : val32 0x3F800000#32 = 1 := by
  have he : expOf 0x3F800000#32 = 127 := by decide
  have hf : fracOf 0x3F800000#32 = 0 := by decide
  have hm : (0x3F800000#32).msb = false := by decide
  simp [val32, he, hf, hm]

theorem val32_two : val32 0x40000000#32 = 2 := by
  have he : expOf 0x40000000#32 = 128 := by decide
  have hf : fracOf 0x40000000#32 = 0 := by decide
  have hm : (0x40000000#32).msb = false := by decide
  simp [val32, he, hf, hm]

theorem normalized_zero : NormalizedSample 0x00000000#32 := by
  refine ⟨by decide +kernel, by decide, 0, by decide, by decide, by decide +kernel⟩

/-- Half: 16384/32768. -/
theorem normalized_half : NormalizedSample 0x3F000000#32 := by
  refine ⟨by decide +kernel, by decide, 16384, by decide, by decide, by decide +kernel⟩

theorem reset_normalized : NormalizedFrame State.reset.block.x := by
  intro i h
  have : State.reset.block.x[i] = 0x00000000#32 := fill_get _ i h
  rw [this]
  exact normalized_zero

/-- The loop over indices of the statements is the sum over pairs of the model. -/
theorem loop_eq_sumProducts (x : Frame Word) (lag : Nat) (hl : lag ≤ 1024) :
    (List.range (1024 - lag)).foldl (fun a i => fadd a (fmul (elem x i) (elem x (i + lag)))) 0#32 =
      sumProducts zeroF (lagPairs x.toList lag) := by
  have hp : lagPairs x.toList lag = (List.range (1024 - lag)).map fun i => (elem x i, elem x (i + lag)) := by
    apply List.ext_getElem
    · simp [lagPairs_length]
    · intro i h1 h2
      have hf : Config.frameSize = 1024 := rfl
      have hi : i < 1024 - lag := by simpa using h2
      rw [lagPairs_get]
      simp only [List.getElem_map, List.getElem_range, elem, List.getD_eq_getElem?_getD]
      rw [List.getElem?_eq_getElem (by simp [hf]; omega), List.getElem?_eq_getElem (by simp [hf]; omega)]
      rfl
  rw [sumProducts_eq_foldl, hp, List.foldl_map]
  rfl

theorem energy_eq (x : Frame Word) : energy x = energyOf x.toList := loop_eq_sumProducts x 0 (by decide)

theorem corr_eq (x : Frame Word) (e : Word) (lag : Nat) (hl : lag ≤ 1024) : corr x e lag = corrOf x.toList e lag :=
  congrArg (fdiv · e) (loop_eq_sumProducts x lag hl)

/-! ### A frame of three impulses, at 0, 100 and 200: voiced at lag 100, 441 Hz, one hertz above A4 -/

def impulseBlock : Block :=
  { Block.reset with inp := Frame.put (Frame.put (Frame.put (Frame.fill 0#16) 0 0x4000#16) 100 0x4000#16) 200 0x4000#16 }

def impulses : List Word :=
  0x3F000000#32 :: (List.replicate 99 0#32 ++ 0x3F000000#32 :: (List.replicate 99 0#32 ++ 0x3F000000#32 :: List.replicate 823 0#32))

def both (ps : List (Word × Word)) : Nat := ps.countP fun p => p.1 != 0#32 && p.2 != 0#32

/-- The sum of `n` quarters. -/
def quarters (n : Nat) : Word :=
  match n with
  | 0 => 0x00000000#32
  | 1 => 0x3E800000#32
  | 2 => 0x3F000000#32
  | _ => 0x3F400000#32

theorem products : fmul 0#32 0#32 = 0#32 ∧ fmul 0#32 0x3F000000#32 = 0#32 ∧ fmul 0x3F000000#32 0#32 = 0#32 ∧
    fmul 0x3F000000#32 0x3F000000#32 = 0x3E800000#32 := by decide +kernel

theorem sums : (fadd 0x00000000#32 0#32 = 0x00000000#32 ∧ fadd 0x3E800000#32 0#32 = 0x3E800000#32 ∧
    fadd 0x3F000000#32 0#32 = 0x3F000000#32 ∧ fadd 0x3F400000#32 0#32 = 0x3F400000#32) ∧
    fadd 0x00000000#32 0x3E800000#32 = 0x3E800000#32 ∧ fadd 0x3E800000#32 0x3E800000#32 = 0x3F000000#32 ∧
    fadd 0x3F000000#32 0x3E800000#32 = 0x3F400000#32 := by decide +kernel

theorem quarters_stay (n : Nat) (a : Word) (h : a ∈ [0#32, 0x3F000000#32]) :
    fadd (quarters n) (fmul 0#32 a) = quarters n ∧ fadd (quarters n) (fmul a 0#32) = quarters n := by
  obtain ⟨h1, h2, h3, -⟩ := products
  obtain ⟨⟨s0, s1, s2, s3⟩, -⟩ := sums
  have hq : fadd (quarters n) 0#32 = quarters n := by
    match n with
    | 0 => exact s0
    | 1 => exact s1
    | 2 => exact s2
    | _ + 3 => exact s3
  simp only [List.mem_cons, List.not_mem_nil, or_false] at h
  rcases h with rfl | rfl
  · rw [h1]; exact ⟨hq, hq⟩
  · rw [h2, h3]; exact ⟨hq, hq⟩

theorem quarters_next (n : Nat) (h : n ≤ 2) :
    fadd (quarters n) (fmul 0x3F000000#32 0x3F000000#32) = quarters (n + 1) := by
  obtain ⟨-, s0, s1, s2⟩ := sums
  rw [products.2.2.2]
  match n with
  | 0 => exact s0
  | 1 => exact s1
  | 2 => exact s2

theorem sum_of_quarters (ps : List (Word × Word)) (n : Nat)
    (hp : ∀ p ∈ ps, p.1 ∈ [0#32, 0x3F000000#32] ∧ p.2 ∈ [0#32, 0x3F000000#32]) (hn : n + both ps ≤ 3) :
    sumProducts (quarters n) ps = quarters (n + both ps) := by
  induction ps generalizing n with
  | nil => rfl
  | cons p rest ih =>
    obtain ⟨a, b⟩ := p
    have hr : ∀ q ∈ rest, _ := fun q hq => hp q (List.mem_cons_of_mem _ hq)
    obtain ⟨ha, hb⟩ := hp (a, b) List.mem_cons_self
    simp only [sumProducts, forced_eq]
    by_cases ha0 : a = 0#32
    · subst ha0
      have hc : both ((0#32, b) :: rest) = both rest := by simp [both]
      rw [hc] at hn ⊢
      rw [(quarters_stay n b hb).1]
      exact ih n hr hn
    · by_cases hb0 : b = 0#32
      · subst hb0
        have hc : both ((a, 0#32) :: rest) = both rest := by simp [both]
        rw [hc] at hn ⊢
        rw [(quarters_stay n a ha).2]
        exact ih n hr hn
      · have ha1 : a = 0x3F000000#32 := by simpa [ha0] using ha
        have hb1 : b = 0x3F000000#32 := by simpa [hb0] using hb
        have hc : both ((a, b) :: rest) = both rest + 1 := by simp [both, ha0, hb0]
        rw [hc] at hn ⊢
        rw [ha1, hb1, quarters_next n (by omega), ih (n + 1) hr (by omega)]
        congr 1
        omega

theorem impulses_values : ∀ a ∈ impulses, a ∈ [0#32, 0x3F000000#32] := by
  intro a ha
  simp only [impulses, List.mem_cons, List.mem_append, List.mem_replicate] at ha
  rcases ha with rfl | ⟨-, rfl⟩ | rfl | ⟨-, rfl⟩ | rfl | ⟨-, rfl⟩ <;> simp

theorem both_zeros (n : Nat) (xs ys : List Word) :
    both ((List.replicate n 0#32 ++ xs).zip ys) = both (xs.zip (ys.drop n)) := by
  induction n generalizing ys with
  | zero => rfl
  | succ n ih =>
    cases ys with
    | nil => simp [both]
    | cons y ys => simpa [both, List.replicate_succ] using ih ys

/-- One where the list has a sample other than 0 at an index. -/
def nonzeroAt (ys : List Word) (i : Nat) : Nat := if ys[i]?.getD 0#32 = 0#32 then 0 else 1

theorem both_cons (xs ys : List Word) :
    both ((0x3F000000#32 :: xs).zip ys) = nonzeroAt ys 0 + both (xs.zip (ys.drop 1)) := by
  cases ys with
  | nil => simp [both, nonzeroAt]
  | cons y ys =>
    by_cases hy : y = 0#32
    · simp [both, nonzeroAt, hy]
    · simp [both, nonzeroAt, hy]; omega

theorem nonzeroAt_impulses (i : Nat) : nonzeroAt impulses i = if i = 0 ∨ i = 100 ∨ i = 200 then 1 else 0 := by
  have h : impulses[i]?.getD 0#32 = if i = 0 ∨ i = 100 ∨ i = 200 then 0x3F000000#32 else 0#32 := by
    simp only [impulses, List.getElem?_cons, List.getElem?_append, List.getElem?_replicate, List.length_replicate]
    split_ifs <;> first | rfl | omega
  unfold nonzeroAt
  rw [h]
  split_ifs <;> simp_all

theorem impulse_pairs (lag : Nat) : both (lagPairs impulses lag) =
    if lag = 0 then 3 else if lag = 100 then 2 else if lag = 200 then 1 else 0 := by
  have hn (k : Nat) : nonzeroAt (impulses.drop lag) k = if lag + k = 0 ∨ lag + k = 100 ∨ lag + k = 200 then 1 else 0 := by
    rw [← nonzeroAt_impulses, nonzeroAt, nonzeroAt, List.getElem?_drop]
  unfold lagPairs
  generalize impulses.drop lag = ys at hn ⊢
  have hd (k j : Nat) : nonzeroAt (ys.drop k) j = nonzeroAt ys (k + j) := by
    rw [nonzeroAt, nonzeroAt, List.getElem?_drop]
  have hz (zs : List Word) : both ((List.replicate 823 0#32).zip zs) = 0 := by
    have h := both_zeros 823 [] zs
    rw [List.append_nil] at h
    rw [h]
    rfl
  rw [impulses, both_cons, both_zeros, both_cons, both_zeros, both_cons, hz]
  simp only [List.drop_drop, hd, hn]
  by_cases h0 : lag = 0
  · subst h0; rfl
  · by_cases h100 : lag = 100
    · subst h100; rfl
    · by_cases h200 : lag = 200
      · subst h200; rfl
      · rw [if_neg (by omega), if_neg (by omega), if_neg (by omega), if_neg h0, if_neg h100, if_neg h200]

theorem impulse_frame : (convertBody impulseBlock).x.toList = impulses := by decide +kernel

theorem impulse_sum (lag : Nat) : sumProducts zeroF (lagPairs impulses lag) =
    quarters (if lag = 0 then 3 else if lag = 100 then 2 else if lag = 200 then 1 else 0) := by
  have hb := impulse_pairs lag
  have hs := sum_of_quarters (lagPairs impulses lag) 0
    (fun p hp => ⟨impulses_values _ (List.of_mem_zip hp).1, impulses_values _ (List.drop_subset _ _ (List.of_mem_zip hp).2)⟩)
    (by rw [hb]; split_ifs <;> omega)
  rw [hb, Nat.zero_add] at hs
  exact hs

theorem impulse_energy : energyOf impulses = 0x3F400000#32 := impulse_sum 0

theorem impulse_corr {lag : Nat} (h : 1 ≤ lag) : corrOf impulses 0x3F400000#32 lag =
    fdiv (quarters (if lag = 100 then 2 else if lag = 200 then 1 else 0)) 0x3F400000#32 := by
  rw [corrOf, impulse_sum, if_neg (by omega)]

theorem impulse_peak : findPeak impulses 0x3F400000#32 = { best := 0x3F2AAAAB#32, lag := 100 } := by
  have h0 : flt zeroF (fdiv (quarters 0) 0x3F400000#32) = false := by decide +kernel
  have h2 : fdiv (quarters 2) 0x3F400000#32 = 0x3F2AAAAB#32 := by decide +kernel
  have hrest : flt 0x3F2AAAAB#32 (fdiv (quarters 0) 0x3F400000#32) = false ∧
      flt 0x3F2AAAAB#32 (fdiv (quarters 1) 0x3F400000#32) = false := by decide +kernel
  have hsplit : List.range' 1 (Config.lagLimit - 1) = List.range' 1 99 ++ 100 :: List.range' 101 411 := by decide +kernel
  have hz : isZero 0x3F400000#32 = false := by decide
  have hup : flt zeroF 0x3F2AAAAB#32 = true := by decide +kernel
  rw [findPeak_eq, hz, if_neg (by decide), hsplit, visitAll_append]
  have hstart : Peak.visitAll { best := zeroF, lag := 0 } impulses 0x3F400000#32 (List.range' 1 99) =
      { best := zeroF, lag := 0 } := by
    apply visitAll_of_not_greater
    intro lag hl
    have hm := List.mem_range'_1.mp hl
    rw [impulse_corr (by omega), if_neg (by omega), if_neg (by omega)]
    exact h0
  rw [hstart, visitAll_cons, impulse_corr (by decide), if_pos rfl, h2, if_pos hup]
  apply visitAll_of_not_greater
  intro lag hl
  have hm := List.mem_range'_1.mp hl
  rw [impulse_corr (by omega), if_neg (by omega)]
  split
  · exact hrest.2
  · exact hrest.1

/-- The peak is voiced, at 441 Hz. -/
theorem impulse_inRange : (detectBody (convertBody impulseBlock)).status.inRange = true := by
  have hf : inRangeFlag (lagFrequency 100) = true ∧ voicedFlag 0x3F2AAAAB#32 = true := by decide +kernel
  simp only [detectBody, impulse_frame, impulse_energy, impulse_peak, writeEstimate_status_inRange]
  simp [hf.1, hf.2]
/-! ### Witnesses: for each statement with hypotheses, and each of its clauses, a state that meets them -/

/-- A state on a block, with given events to come. -/
def stateOn (b : Block) (agenda : List Event) : State := { State.reset with block := b, agenda := agenda }

/-- A block while a command is pending. -/
def busyBlock : Block := Block.reset.accept 0x00000008#32 .process

/-- The flags after a command are those its body leaves. -/
theorem finish_flags (b : Block) (ag : List Event) (body : Block → Block) :
    ((stateOn b ag).finish body).block.status.voiced = (body b).status.voiced ∧
    ((stateOn b ag).finish body).block.status.inRange = (body b).status.inRange ∧
    ((stateOn b ag).finish body).block.status.shifted = (body b).status.shifted := ⟨rfl, rfl, rfl⟩

/-- Offsets of R33's table lead to the locations the table names there. -/
theorem test_offsets :
    locate 0x0010#16 = some .energy ∧ locate 0x0014#16 = some .maxcorr ∧ locate 0x001C#16 = some .freq ∧
      locate 0x0024#16 = some .target ∧ locate 0x0028#16 = some .ratio ∧ locate 0x1000#16 = some (.inp 0) ∧
      locate 0x2FFC#16 = some (.out 1023) ∧ locate 0x3000#16 = some (.x 0) ∧ locate 0x4000#16 = some (.y 0) := by
  decide

theorem witness_RegisterMapRoundTrips :
    (0x4FFC % 4 = 0 ∧ locate 0x4FFC#16 = some (.y 1023)) ∧ locate 0x00B0#16 = some (.scale 12) ∧
      locate 0x00B4#16 = none ∧ Reserved 0x00B4#16 ∧ locate 0x5000#16 = none ∧ Reserved 0x5000#16 ∧ ¬ Reserved 0x0080#16 := by
  unfold Reserved
  decide

theorem witness_PlatformAddressesAgreeWithOffsets : platformOffset Config.coreBase = some 0x0000#16 := by
  simp [platformOffset]

theorem witness_ResetFromAnyState : (stateOn busyBlock [.reset]).agenda = .reset :: [] := rfl

theorem reachable_of_silent (b : Block) (hx : b.x = Frame.fill 0#32) (hl : b.bestlag = 0#9) (hn : b.noteidx = 0xF#4)
    (hs : (b.status.busy = true ↔ b.pending ≠ none) ∧ ∀ i, b.pending = some i → i.opcode = (b.cmd.extractLsb' 0 8).toNat)
    (hd : b.status.busy = true → b.status.done = false)
    (hc : b.cmd.extractLsb' 8 24 = 0#24 ∧ (b.cmd.extractLsb' 0 8).toNat ≤ 0x08) : Reachable b := by
  refine ⟨hs, hd, ⟨by rw [hl]; decide, .inr (by rw [hn]; decide)⟩, ?_, ?_, hc⟩
  · intro i h
    have hi : b.x[i] = 0x00000000#32 := by rw [hx]; exact fill_get _ i h
    rw [hi]
    exact ⟨normalized_zero, finite_zero, by rw [val32_zero]; norm_num⟩
  · intro i h
    refine ⟨⟨?_, ?_⟩, ⟨?_, ?_⟩⟩
    · exact (b.inp[i]).le_toInt
    · have := (b.inp[i]).toInt_lt; omega
    · exact (b.out[i]).le_toInt
    · have := (b.out[i]).toInt_lt; omega

theorem witness_EveryStepKeepsTheInvariants : Reachable (stateOn busyBlock []).block :=
  reachable_of_silent _ rfl rfl rfl (by refine ⟨by decide, ?_⟩; rintro i h; cases h; decide) (by decide) (by decide)

theorem witness_EngineStepRunsThePendingCommand :
    ((stateOn busyBlock []).block.pending = some .process ∧ (stateOn busyBlock []).agenda = []) ∧
      (stateOn busyBlock [.engine]).block.pending = some .process ∧ (stateOn busyBlock [.engine]).agenda = .engine :: [] :=
  ⟨⟨rfl, rfl⟩, rfl, rfl⟩

theorem witness_AcceptedWordRunsAsItsCommand : decode 0x00000008#32 = .ok .process ∧
    Block.reset.status.busy = false ∧
    (stateOn Block.reset [.bus (.write 0x008#16 4#3 0x00000008#32), .engine]).agenda =
      .bus (.write 0x008#16 4#3 0x00000008#32) :: .engine :: [] :=
  ⟨by decide, rfl, rfl⟩

theorem witness_FetchWordRunsItsCommand : decode 0x00000008#32 = .ok .process := by decide

theorem witness_CommandWriteIsAcceptedOrRefused :
    busyBlock.status.busy = true ∧
    (Block.reset.status.busy = false ∧ IllegalWord 0x00000009#32 ∧ IllegalWord 0x00000100#32) ∧ ¬ IllegalWord 0x00000008#32 := by
  unfold IllegalWord
  decide

theorem witness_IdleEngineKeepsAllState : (stateOn Block.reset []).block.pending = none ∧ (stateOn Block.reset []).agenda = [] ∧
    (stateOn Block.reset [.engine]).agenda = .engine :: [] := ⟨rfl, rfl, rfl⟩

theorem witness_InputsAreFixedWhilePending : busyBlock.status.busy = true ∧
    (stateOn busyBlock [.bus (.write 0x1000#16 4#3 5#32)]).agenda = .bus (.write 0x1000#16 4#3 5#32) :: [] := ⟨rfl, rfl⟩

theorem witness_FlagsReportTheirCommands :
    (FiniteDatum 0x3F800000#32 ∧ 0 < val32 0x3F800000#32) ∧
    (¬ FiniteDatum 0x7F800000#32 ∧ FiniteDatum 0x00000000#32 ∧ val32 0x00000000#32 ≤ 0) ∧
    ∃ t, exec .shift State.reset = .next t ∧ State.reset.block.ratio = 0x3F800000#32 ∧
      ∃ u, exec .shift (stateOn { Block.reset with ratio := 0#32 } []) = .next u ∧
        (stateOn { Block.reset with ratio := 0#32 } []).block.status.errOperand = false ∧ u.block.status.errOperand = true := by
  refine ⟨⟨finite_one, by rw [val32_one]; norm_num⟩, ⟨not_finite_infinity, finite_zero, by rw [val32_zero]⟩, _, rfl, rfl, _, rfl, rfl, ?_⟩
  decide +kernel

theorem val32_last : val32 0x3F7FFE00#32 = 32767 / 32768 := by
  have he : expOf 0x3F7FFE00#32 = 126 := by decide
  have hf : fracOf 0x3F7FFE00#32 = 0x7FFE00 := by decide
  have hm : (0x3F7FFE00#32).msb = false := by decide
  simp only [val32, he, hf, hm]
  norm_num

theorem val32_minus_one : val32 0xBF800000#32 = -1 := by
  have he : expOf 0xBF800000#32 = 127 := by decide
  have hf : fracOf 0xBF800000#32 = 0 := by decide
  have hm : (0xBF800000#32).msb = true := by decide
  simp [val32, he, hf, hm]

/-- Every kind of datum, and both ends of the range CLAMP rounds in, in a Y. -/
theorem witness_ClampSaturatesAndRounds :
    (∀ w : Word, ∃ s : State, s.block.y[0] = w) ∧ NaNDatum 0x7FC00000#32 ∧
      (FiniteDatum 0x3F7FFE00#32 ∧ 32767 ≤ val32 0x3F7FFE00#32 * 32768) ∧
      (FiniteDatum 0xBF800000#32 ∧ val32 0xBF800000#32 * 32768 ≤ -32768) ∧
      FiniteDatum 0x00000000#32 ∧ ¬ 32767 ≤ val32 0x00000000#32 * 32768 ∧ ¬ val32 0x00000000#32 * 32768 ≤ -32768 := by
  refine ⟨fun w => ⟨stateOn { Block.reset with y := Frame.fill w } [], fill_get w 0 (by decide)⟩, ?_, ?_, ?_, finite_zero, ?_, ?_⟩
  · unfold NaNDatum expOf fracOf; decide
  · exact ⟨by unfold FiniteDatum expOf; decide, by rw [val32_last]; norm_num⟩
  · exact ⟨by unfold FiniteDatum expOf; decide, by rw [val32_minus_one]; norm_num⟩
  · rw [val32_zero]; norm_num
  · rw [val32_zero]; norm_num

/-- The block on the frame of three impulses. -/
def voicedBlock : Block := convertBody impulseBlock

theorem voiced_frame_energy : energy voicedBlock.x = 0x3F400000#32 := by
  rw [energy_eq, voicedBlock, impulse_frame, impulse_energy]

theorem silent_frame_energy : energy Block.reset.x = 0#32 := by
  have hs : sumProducts (quarters 0) (lagPairs (List.replicate 1024 0#32) 0) = quarters (0 + both (lagPairs (List.replicate 1024 0#32) 0)) := by
    have hb : both (lagPairs (List.replicate 1024 0#32) 0) = 0 := by
      have h := both_zeros 1024 [] (List.replicate 1024 0#32)
      rw [List.append_nil] at h
      exact h
    apply sum_of_quarters _ _ _ (by rw [hb]; decide)
    intro p hp
    have h1 := List.eq_of_mem_replicate (List.of_mem_zip hp).1
    have h2 := List.eq_of_mem_replicate (List.mem_of_mem_drop (List.of_mem_zip hp).2)
    simp [h1, h2]
  have hb : both (lagPairs (List.replicate 1024 0#32) 0) = 0 := by
    have h := both_zeros 1024 [] (List.replicate 1024 0#32)
    rw [List.append_nil] at h
    exact h
  rw [hb] at hs
  rw [energy_eq]
  have hx : Block.reset.x.toList = List.replicate 1024 0#32 := Vector.toList_replicate
  rw [hx]
  exact hs

theorem voiced_frame_normalized : NormalizedFrame voicedBlock.x := by
  intro i h
  have hm : voicedBlock.x[i] ∈ voicedBlock.x.toList := by simp
  rw [voicedBlock, impulse_frame] at hm
  have hv := impulses_values _ hm
  simp only [List.mem_cons, List.not_mem_nil, or_false] at hv
  rcases hv with hv | hv <;> rw [voicedBlock, hv]
  · exact normalized_zero
  · exact normalized_half

theorem voiced_correlation : corr voicedBlock.x (energy voicedBlock.x) 100 = 0x3F2AAAAB#32 := by
  rw [voiced_frame_energy, corr_eq _ _ _ (by decide), voicedBlock, impulse_frame, impulse_corr (by decide), if_pos rfl]
  decide +kernel

theorem voiced_correlation_positive : 0 < val32 0x3F2AAAAB#32 := by
  have he : expOf 0x3F2AAAAB#32 = 126 := by decide
  have hf : fracOf 0x3F2AAAAB#32 = 0x2AAAAB := by decide
  have hm : (0x3F2AAAAB#32).msb = false := by decide
  simp only [val32, he, hf, hm]
  norm_num

theorem witness_DetectRunsTheLagSearch :
    ZeroDatum (energy (stateOn Block.reset []).block.x) ∧ ¬ ZeroDatum (energy (stateOn voicedBlock []).block.x) :=
  ⟨.inl silent_frame_energy, by
    change ¬ ZeroDatum (energy voicedBlock.x)
    rw [voiced_frame_energy]
    unfold ZeroDatum
    decide⟩

theorem witness_PeakIsTheFirstGreatestCorrelation :
    (NormalizedFrame (stateOn voicedBlock []).block.x ∧ ¬ ZeroDatum (energy (stateOn voicedBlock []).block.x) ∧
      ∃ lag, 1 ≤ lag ∧ lag ≤ 511 ∧ 0 < val32 (corr voicedBlock.x (energy voicedBlock.x) lag)) ∧
    NormalizedFrame (stateOn Block.reset []).block.x ∧ ZeroDatum (energy (stateOn Block.reset []).block.x) :=
  ⟨⟨voiced_frame_normalized, witness_DetectRunsTheLagSearch.2, 100, by decide, by decide, by
    rw [voiced_correlation]; exact voiced_correlation_positive⟩, reset_normalized, witness_DetectRunsTheLagSearch.1⟩

/-- A voiced frame in range, and a silent one. -/
theorem witness_VoicingAndFrequency :
    (∃ t, exec .detect (stateOn voicedBlock []) = .next t ∧ t.block.status.voiced = true ∧ t.block.status.inRange = true) ∧
    ∃ t, exec .detect (stateOn Block.reset []) = .next t ∧ t.block.status.voiced = false ∧ t.block.bestlag = 0#9 := by
  have he : energyOf Block.reset.x.toList = 0#32 := by rw [← energy_eq]; exact silent_frame_energy
  have hp : findPeak Block.reset.x.toList 0#32 = { best := zeroF, lag := 0 } := by rw [findPeak_eq, if_pos (by decide)]
  have hv : voicedFlag zeroF = false ∧ voicedFlag 0x3F2AAAAB#32 = true := by decide +kernel
  have h1 : (detectBody voicedBlock).status.voiced = true := by
    simp only [voicedBlock, detectBody, impulse_frame, impulse_energy, impulse_peak, writeEstimate_status_voiced, hv.2]
  have h2 : (detectBody Block.reset).status.voiced = false ∧ (detectBody Block.reset).bestlag = 0#9 := by
    simp only [detectBody, he, hp, writeEstimate_status_voiced, writeEstimate_bestlag, hv.1]
    trivial
  have f1 := finish_flags voicedBlock [] detectBody
  have f2 := finish_flags Block.reset [] detectBody
  exact ⟨⟨_, exec_eq _ _, f1.1.trans h1, f1.2.1.trans impulse_inRange⟩, _, exec_eq _ _, f2.1.trans h2.1, h2.2⟩

theorem witness_EnergyIsBounded : NormalizedFrame (stateOn voicedBlock []).block.x := voiced_frame_normalized

theorem witness_SilentFrameIsUnvoiced : NormalizedFrame (stateOn Block.reset []).block.x ∧
    ∃ t, exec .detect (stateOn Block.reset []) = .next t ∧ ZeroDatum t.block.energy := by
  refine ⟨reset_normalized, _, rfl, .inl ?_⟩
  have he : energyOf Block.reset.x.toList = 0#32 := by rw [← energy_eq]; exact silent_frame_energy
  simp [State.finish, stateOn, detectBody, he]

theorem witness_QuantizePicksTheNearestNote : FiniteDatum (stateOn Block.reset []).block.freq ∧
    ¬ FiniteDatum (stateOn { Block.reset with freq := 0x7F800000#32 } []).block.freq := ⟨finite_zero, not_finite_infinity⟩

theorem witness_QuantizeByMidpoints : FiniteDatum (stateOn Block.reset []).block.freq := finite_zero

/-- A finite quotient, one that overflows, and the three refused operands. -/
theorem witness_RatioDividesOrRaises :
    (FiniteDatum 0x00000000#32 ∧ FiniteDatum 0x3F800000#32 ∧ ¬ ZeroDatum 0x3F800000#32 ∧
      FiniteDatum (fdiv 0x00000000#32 0x3F800000#32)) ∧
    (FiniteDatum 0x7F000000#32 ∧ FiniteDatum 0x00800000#32 ∧ ¬ ZeroDatum 0x00800000#32 ∧
      ¬ FiniteDatum (fdiv 0x7F000000#32 0x00800000#32)) ∧
    ¬ FiniteDatum 0x7F800000#32 ∧ ZeroDatum 0x80000000#32 := by
  have h1 : fdiv 0x00000000#32 0x3F800000#32 = 0x00000000#32 := by decide +kernel
  have h2 : fdiv 0x7F000000#32 0x00800000#32 = 0x7F800000#32 := by decide +kernel
  rw [h1, h2]
  unfold FiniteDatum ZeroDatum expOf
  decide

theorem witness_ShiftRefusesUnusableRatio :
    ¬ FiniteDatum 0x7F800000#32 ∧ val32 (stateOn { Block.reset with ratio := 0#32 } []).block.ratio ≤ 0 :=
  ⟨not_finite_infinity, le_of_eq val32_zero⟩

theorem finite_two : FiniteDatum 0x40000000#32 := by unfold FiniteDatum expOf; decide

theorem witness_DeadZoneDecidesAsTheReals :
    (FiniteDatum (stateOn Block.reset []).block.ratio ∧ 0 < val32 (stateOn Block.reset []).block.ratio ∧
      |val32 (stateOn Block.reset []).block.ratio - 1| ≤ 1 / 100) ∧
    FiniteDatum (stateOn { Block.reset with ratio := 0x40000000#32 } []).block.ratio ∧
      0 < val32 (stateOn { Block.reset with ratio := 0x40000000#32 } []).block.ratio ∧
      1 / 100 < |val32 (stateOn { Block.reset with ratio := 0x40000000#32 } []).block.ratio - 1| := by
  have h1 : (stateOn Block.reset []).block.ratio = 0x3F800000#32 := rfl
  have h2 : (stateOn { Block.reset with ratio := 0x40000000#32 } []).block.ratio = 0x40000000#32 := rfl
  rw [h1, h2, val32_one, val32_two]
  exact ⟨⟨finite_one, by norm_num, by norm_num⟩, finite_two, by norm_num, by norm_num⟩

theorem val32_three : val32 0x40400000#32 = 3 := by
  have he : expOf 0x40400000#32 = 128 := by decide
  have hf : fracOf 0x40400000#32 = 0x400000 := by decide
  have hm : (0x40400000#32).msb = false := by decide
  simp only [val32, he, hf, hm]
  norm_num

theorem val32_1023 : val32 0x447FC000#32 = 1023 := by
  have he : expOf 0x447FC000#32 = 136 := by decide
  have hf : fracOf 0x447FC000#32 = 0x7FC000 := by decide
  have hm : (0x447FC000#32).msb = false := by decide
  simp only [val32, he, hf, hm]
  norm_num

/-- For a ratio of 3: position 0, position 341 at the last sample exactly; for the greatest ratio, a position that overflows. -/
theorem witness_ShiftInterpolates :
    (FiniteDatum 0x40400000#32 ∧ 0 < val32 0x40400000#32 ∧ 1 / 100 < |val32 0x40400000#32 - 1|) ∧
    (FiniteDatum (fmul (floatOf (0 : Nat)) 0x40400000#32) ∧ val32 (fmul (floatOf (0 : Nat)) 0x40400000#32) < 1023) ∧
    (FiniteDatum (fmul (floatOf (341 : Nat)) 0x40400000#32) ∧ 1023 ≤ val32 (fmul (floatOf (341 : Nat)) 0x40400000#32)) ∧
    FiniteDatum 0x7F7FFFFF#32 ∧ fmul (floatOf (2 : Nat)) 0x7F7FFFFF#32 = 0x7F800000#32 := by
  have h0 : fmul (floatOf (0 : Nat)) 0x40400000#32 = 0x00000000#32 := by decide +kernel
  have h1 : fmul (floatOf (341 : Nat)) 0x40400000#32 = 0x447FC000#32 := by decide +kernel
  have h2 : fmul (floatOf (2 : Nat)) 0x7F7FFFFF#32 = 0x7F800000#32 := by decide +kernel
  rw [h0, h1, h2, val32_three, val32_zero, val32_1023]
  refine ⟨⟨?_, by norm_num, by norm_num⟩, ⟨finite_zero, by norm_num⟩, ⟨?_, le_refl _⟩, ?_, rfl⟩ <;>
    (unfold FiniteDatum expOf; decide)

theorem witness_ShiftedFrameStaysInRange :
    NormalizedFrame (stateOn { voicedBlock with ratio := 0x40000000#32 } []).block.x ∧
      FiniteDatum (stateOn { voicedBlock with ratio := 0x40000000#32 } []).block.ratio ∧
      0 < val32 (stateOn { voicedBlock with ratio := 0x40000000#32 } []).block.ratio :=
  ⟨voiced_frame_normalized, finite_two, lt_of_lt_of_eq (by norm_num) val32_two.symm⟩

theorem silent_inRange : (detectBody (convertBody Block.reset)).status.inRange = false := by
  have hx : (convertBody Block.reset).x = Block.reset.x := by
    have h0 : convertSample 0#16 = 0#32 := by decide +kernel
    apply frame_ext
    intro i h
    exact (mapAll_get convertSample _ i h).trans ((congrArg convertSample (fill_get _ i h)).trans (h0.trans (fill_get _ i h).symm))
  have he : energyOf (convertBody Block.reset).x.toList = 0#32 := by rw [hx, ← energy_eq]; exact silent_frame_energy
  have hp : findPeak (convertBody Block.reset).x.toList 0#32 = { best := zeroF, lag := 0 } := by rw [findPeak_eq, if_pos (by decide)]
  have hv : voicedFlag zeroF = false ∧ inRangeFlag zeroF = false := by decide +kernel
  simp only [detectBody, he, hp, writeEstimate_status_inRange]
  simp [hv.1, hv.2]

/-- A frame in range, and one that is not. -/
theorem witness_ProcessIsTheUnitsInOrder :
    (∃ t1 t2, exec .convert (stateOn impulseBlock []) = .next t1 ∧ exec .detect t1 = .next t2 ∧ t2.block.status.inRange = true) ∧
    ∃ t1 t2, exec .convert (stateOn Block.reset []) = .next t1 ∧ exec .detect t1 = .next t2 ∧ t2.block.status.inRange = false := by
  have hc (b : Block) : (((stateOn b []).finish convertBody).finish detectBody).block.status.inRange =
      (detectBody (convertBody b).complete).status.inRange := rfl
  have hd (b : Block) : (detectBody b.complete).status.inRange = (detectBody b).status.inRange := by
    simp only [detectBody, writeEstimate_status_inRange, complete_x]
  exact ⟨⟨_, _, exec_eq _ _, exec_eq _ _, (hc _).trans ((hd _).trans impulse_inRange)⟩,
    _, _, exec_eq _ _, exec_eq _ _, (hc _).trans ((hd _).trans silent_inRange)⟩

theorem witness_ProcessDependsOnInAlone :
    (stateOn impulseBlock []).block.inp = (stateOn { impulseBlock with ratio := 0#32 } [.engine]).block.inp := rfl

theorem process_inRange (b : Block) : (processBody b).status.inRange = (detectBody (convertBody b)).status.inRange := by
  unfold processBody correctBody
  rw [clampBody_status_inRange]
  split
  · rw [shiftBody_status_inRange, ratioBody_status_inRange, quantizeBody_status_inRange]
  · rw [noNote_status_inRange]

theorem witness_ProcessRaisesNothing : ∃ t, exec .process (stateOn impulseBlock []) = .next t ∧ t.block.status.inRange = true :=
  ⟨_, exec_eq _ _, (finish_flags _ _ processBody).2.1.trans ((process_inRange _).trans impulse_inRange)⟩

/-- A frame not in range, and one in range with its ratio 440/441 in the dead zone (42_pitch_quantizer.md R165's example). -/
theorem witness_UnshiftedFramePassesThrough :
    (∃ t, exec .process (stateOn Block.reset []) = .next t ∧ t.block.status.inRange = false ∧ t.block.status.shifted = false) ∧
    ∃ t, exec .process (stateOn impulseBlock []) = .next t ∧ t.block.status.inRange = true ∧ t.block.status.shifted = false := by
  have hs : (processBody Block.reset).status.shifted = false := by
    unfold processBody correctBody
    rw [silent_inRange]
    rfl
  have hv : (processBody impulseBlock).status.shifted = false := by
    have hl : lagFrequency 100 = 0x43DC8000#32 ∧ voicedFlag 0x3F2AAAAB#32 = true := by decide +kernel
    have hf : (detectBody (convertBody impulseBlock)).freq = 0x43DC8000#32 := by
      simp only [detectBody, impulse_frame, impulse_energy, impulse_peak, writeEstimate_freq, hl.1, hl.2, if_true]
    have hq : quantizeOperandOk 0x43DC8000#32 = true ∧ Config.scale (nearestNote 0x43DC8000#32) = 0x43DC0000#32 := by decide +kernel
    have hr : ratioOperandOk 0x43DC0000#32 0x43DC8000#32 = true ∧ fdiv 0x43DC0000#32 0x43DC8000#32 = 0x3F7F6B64#32 := by
      decide +kernel
    have hz : shiftOperandOk 0x3F7F6B64#32 = true ∧ shiftedFlag 0x3F7F6B64#32 = false := by decide +kernel
    unfold processBody correctBody
    rw [if_pos impulse_inRange, clampBody_status_shifted]
    generalize detectBody (convertBody impulseBlock) = b at hf
    have h1 : (quantizeBody b).target = 0x43DC0000#32 ∧ (quantizeBody b).freq = 0x43DC8000#32 := by
      rw [quantizeBody_ok (by rw [hf]; exact hq.1), hf]
      exact ⟨hq.2, rfl⟩
    generalize quantizeBody b = c at h1
    have h2 : (ratioBody c).ratio = 0x3F7F6B64#32 := by
      rw [ratioBody_ok (by rw [h1.1, h1.2]; exact hr.1), h1.1, h1.2]
      exact hr.2
    generalize ratioBody c = d at h2
    unfold shiftBody
    rw [h2, hz.1, hz.2]
    rfl
  have hf := finish_flags Block.reset [] processBody
  have hi := finish_flags impulseBlock [] processBody
  exact ⟨⟨_, exec_eq _ _, hf.2.1.trans ((process_inRange _).trans silent_inRange), hf.2.2.trans hs⟩,
    _, exec_eq _ _, hi.2.1.trans ((process_inRange _).trans impulse_inRange), hi.2.2.trans hv⟩

/-- A width, an alignment and each range of reserved offsets at its ends; the offsets beside them are none. -/
theorem witness_BadAccessOnlySetsErrAccess :
    (∀ p ∈ [(0x0000#16, 2#3), (0x1002#16, 4#3), (0x002C#16, 4#3), (0x0050#16, 4#3), (0x007C#16, 4#3), (0x00B4#16, 4#3),
      (0x0FFC#16, 4#3), (0x5000#16, 4#3), (0xFFFC#16, 4#3)], BadAccess p.1 p.2) ∧
    ∀ a ∈ [0x0028#16, 0x004C#16, 0x0080#16, 0x00B0#16, 0x1000#16, 0x4FFC#16], ¬ BadAccess a 4#3 := by
  simp [BadAccess, Reserved]

/-- Read-only offsets at the ends of their ranges, none of them reserved or CTRL. -/
theorem witness_ReadOnlyWritesAreIgnored : ∀ a ∈ [0x0000#16, 0x0010#16, 0x0018#16, 0x0020#16, 0x0030#16, 0x004C#16, 0x0080#16,
    0x00B0#16, 0x2000#16, 0x3FFC#16], a.toNat % 4 = 0 ∧ ReadOnly a ∧ ¬ Reserved a ∧ ¬ Guarded a ∧ a ≠ 0x004#16 ∧ a ≠ 0x00C#16 := by
  simp [ReadOnly, Reserved, Guarded]

theorem witness_BusyGuardDropsWrites : busyBlock.status.busy = true ∧
    ∀ a ∈ [0x0008#16, 0x001C#16, 0x0024#16, 0x0028#16, 0x1000#16, 0x1FFC#16, 0x4000#16, 0x4FFC#16],
      a.toNat % 4 = 0 ∧ Guarded a ∧ ¬ ReadOnly a ∧ a ≠ 0x004#16 ∧ a ≠ 0x00C#16 := by
  refine ⟨rfl, ?_⟩
  simp [Guarded, ReadOnly]

theorem witness_BusyReadsOfResultsAreFree : busyBlock.status.busy = true ∧
    (stateOn busyBlock [.bus (.read (Loc.out 1023).offset 4#3)]).agenda = .bus (.read (Loc.out 1023).offset 4#3) :: [] ∧
    (stateOn busyBlock [.bus (.read Loc.status.offset 4#3)]).agenda = .bus (.read Loc.status.offset 4#3) :: [] ∧
    (stateOn busyBlock [.bus (.read (Loc.scale 12).offset 4#3)]).agenda = .bus (.read (Loc.scale 12).offset 4#3) :: [] :=
  ⟨rfl, rfl, rfl, rfl⟩

theorem witness_IdleReadsReturnTheRegister : Block.reset.status.busy = false ∧
    (stateOn Block.reset [.bus (.read Loc.ratio.offset 4#3)]).agenda = .bus (.read Loc.ratio.offset 4#3) :: [] := ⟨rfl, rfl⟩

theorem witness_IdleWritesStoreOneLocation : Block.reset.status.busy = false ∧
    ∀ l ∈ [Loc.ctrl, .freq, .target, .ratio, .inp 0, .inp 1023, .y 0, .y 1023],
      (stateOn Block.reset [.bus (.write l.offset 4#3 0xFFFF8000#32)]).agenda = .bus (.write l.offset 4#3 0xFFFF8000#32) :: [] :=
  ⟨rfl, fun _ _ => rfl⟩

theorem witness_StatusWriteClearsNamedBits :
    (stateOn busyBlock [.bus (.write 0x00C#16 4#3 0x00000F02#32)]).agenda = .bus (.write 0x00C#16 4#3 0x00000F02#32) :: [] := rfl

/-- Each clause of the priority once, at addresses where the others do not apply. -/
theorem witness_ErrorPriorityOfOneWrite :
    Block.reset.status.noError = true ∧ busyBlock.status.noError = true ∧ busyBlock.status.busy = true ∧
    BadAccess 0x0008#16 1#3 ∧ (¬ BadAccess 0x0008#16 4#3 ∧ Guarded 0x0008#16 ∧ IllegalWord 0x00000009#32) ∧
    Block.reset.status.busy = false ∧ ¬ IllegalWord 0x00000008#32 ∧ ¬ BadAccess 0x0004#16 4#3 ∧ ¬ Guarded 0x0004#16 := by
  refine ⟨rfl, rfl, rfl, ?_, ?_, rfl, ?_, ?_, ?_⟩ <;> simp [BadAccess, Reserved, Guarded, IllegalWord]

/-- One and the smallest subnormal: a sum, a product and a quotient; an exact cancellation; a product that is zero. -/
theorem witness_PrimitivesRoundOnce : FiniteDatum 0x3F800000#32 ∧ FiniteDatum 0x00000001#32 ∧ ¬ ZeroDatum 0x00000001#32 ∧
    (val32 0x3F800000#32 + val32 0xBF800000#32 = 0 ∧ (0x3F800000#32).msb ≠ (0xBF800000#32).msb) ∧
    ZeroDatum (fmul 0x3F800000#32 0x80000000#32) ∧ ZeroDatum (fdiv 0x80000000#32 0x3F800000#32) := by
  have h1 : fmul 0x3F800000#32 0x80000000#32 = 0x80000000#32 := by decide +kernel
  have h2 : fdiv 0x80000000#32 0x3F800000#32 = 0x80000000#32 := by decide +kernel
  rw [h1, h2, val32_one, val32_minus_one]
  refine ⟨finite_one, ?_, ?_, ⟨by norm_num, by decide⟩, .inr rfl, .inr rfl⟩
  · unfold FiniteDatum expOf; decide
  · unfold ZeroDatum; decide

theorem witness_ExactUnitsAreRealValues : FiniteDatum 0x3F800000#32 := finite_one

theorem witness_ComparisonsAreRealComparisons : FiniteDatum 0x3F800000#32 ∧ FiniteDatum 0x00000000#32 := ⟨finite_one, finite_zero⟩

theorem witness_FloatOfSmallIntegerIsExact : |((2 : Int) ^ 24)| ≤ 2 ^ 24 ∧ |(-(2 : Int) ^ 24)| ≤ 2 ^ 24 := by decide

theorem witness_RunStatementCompletesItsCommand :
    State.reset.block.status.busy = false ∧ State.reset.block.pending = none := ⟨rfl, rfl⟩

/-- An input of one frame and a tail of two samples, and a longer output. -/
theorem witness_ProcessAudioLengthAndTail : State.reset.block.status.busy = false ∧ State.reset.block.pending = none ∧
    (List.replicate 1026 1#16).length ≤ (List.replicate 1027 0#16).length ∧
    1024 * ((List.replicate 1026 1#16).length / 1024) ≤ 1025 ∧ 1025 < (List.replicate 1026 1#16).length := by
  simp only [List.length_replicate]
  exact ⟨rfl, rfl, by decide, by decide, by decide⟩

theorem witness_ProcessAudioFramesAreIndependent : State.reset.block.status.busy = false ∧ State.reset.block.pending = none ∧
    (List.replicate 1026 1#16).length ≤ (List.replicate 1027 0#16).length ∧ 0 < (List.replicate 1026 1#16).length / 1024 ∧
    ∀ (j : Nat) (h : j < 1024), (List.replicate 1026 1#16)[1024 * 0 + j]? = some (Frame.fill 1#16 : Frame Sample)[j] := by
  simp only [List.length_replicate]
  refine ⟨rfl, rfl, by decide, by decide, fun j h => ?_⟩
  have hf : (Frame.fill 1#16 : Frame Sample)[j] = 1#16 := fill_get _ j h
  rw [hf, List.getElem?_replicate, if_pos (by omega)]

end Sys2Proof.Tests
end

section
/-! PROOFS. The real value of a pattern is its integer of units (00_scope.md R10), and patterns are ordered as their values (R12). -/

namespace Sys2Proof.Machine

open Sys2Proof.Spec

/-! ## The spec's fields are the model's -/

theorem expOf_eq_expBits (w : Word) : expOf w = expBits w := by
  unfold expOf expBits magBits
  omega

theorem fracOf_eq_fracBits (w : Word) : fracOf w = fracBits w := by
  unfold fracOf fracBits magBits
  omega

theorem finiteDatum_iff_expBits (w : Word) : FiniteDatum w ↔ expBits w ≠ 255 := by
  rw [FiniteDatum, expOf_eq_expBits]

theorem isFinite_iff_finiteDatum (w : Word) : isFinite w = true ↔ FiniteDatum w := by
  simp [finiteDatum_iff_expBits, isFinite]

/-- The finite data are those below the pattern of +Infinity, the sign left off. -/
theorem finiteDatum_iff_magBits_lt (w : Word) : FiniteDatum w ↔ magBits w < 0x7F800000 := by
  have := expBits_lt w
  have := magBits_split w
  have := fracBits_lt w
  rw [finiteDatum_iff_expBits]
  omega

/-! ## Units of 2^-149 -/

/-- The real sign of a sign bit. -/
def signOf (neg : Bool) : ℤ := if neg then -1 else 1

@[simp] theorem signOf_false : signOf false = 1 := rfl

@[simp] theorem signOf_true : signOf true = -1 := rfl

@[simp] theorem signOf_mul_self (neg : Bool) : signOf neg * signOf neg = 1 := by cases neg <;> rfl

@[simp] theorem abs_signOf (neg : Bool) : |signOf neg| = 1 := by cases neg <;> rfl

theorem signOf_bne (p q : Bool) : signOf (p != q) = signOf p * signOf q := by cases p <;> cases q <;> rfl

theorem exactUnits_eq (w : Word) : exactUnits w = signOf (signBit w) * magUnits w := by
  unfold exactUnits signOf
  split <;> simp

theorem abs_exactUnits (w : Word) : |exactUnits w| = magUnits w := by
  simp [exactUnits_eq, abs_mul]

/-- The unit of a normal datum's last place is 2^(e-1) units of 2^-149. -/
theorem lastPlace_eq {e : ℕ} (he : e ≠ 0) :
    (2 : ℚ) ^ ((e : ℤ) - 127) = 2 ^ 23 * 2 ^ (e - 1) * 2 ^ (-149 : ℤ) := by
  rw [← zpow_natCast, ← zpow_natCast, ← zpow_add₀ two_ne_zero, ← zpow_add₀ two_ne_zero]
  congr 1
  omega

theorem val32_eq_units (w : Word) : val32 w = (exactUnits w : ℚ) * (2 : ℚ) ^ (-149 : ℤ) := by
  have hs : ((signOf (signBit w) : ℤ) : ℚ) = if w.msb then -1 else 1 := by
    unfold signOf signBit
    split <;> simp
  rw [exactUnits_eq, Int.cast_mul, hs, mul_assoc, val32, expOf_eq_expBits, fracOf_eq_fracBits, magUnits]
  congr 1
  split
  · norm_num
    ring
  · rw [lastPlace_eq ‹_›]
    push_cast
    ring

/-- The unit of the model's exact values. -/
theorem unit_pos : (0 : ℚ) < 2 ^ (-149 : ℤ) := by positivity

theorem val32_lt_iff (a b : Word) : val32 a < val32 b ↔ exactUnits a < exactUnits b := by
  rw [val32_eq_units, val32_eq_units, mul_lt_mul_iff_left₀ unit_pos, Int.cast_lt]

theorem val32_eq_zero_iff (w : Word) : val32 w = 0 ↔ magUnits w = 0 := by
  rw [val32_eq_units, mul_eq_zero_iff_right unit_pos.ne', Int.cast_eq_zero, ← abs_eq_zero, abs_exactUnits, Nat.cast_eq_zero]

/-! ## Magnitudes are ordered as their bits -/

theorem magUnits_lt_two_pow (w : Word) : magUnits w < 2 ^ (23 + expBits w) := by
  have hf := fracBits_lt w
  unfold magUnits
  split
  · rename_i h
    simpa [h] using hf
  · calc (2 ^ 23 + fracBits w) * 2 ^ (expBits w - 1) < 2 ^ 24 * 2 ^ (expBits w - 1) := by gcongr; omega
      _ = 2 ^ (23 + expBits w) := by rw [← pow_add]; congr 1; omega

theorem two_pow_le_magUnits {w : Word} (h : 0 < expBits w) : 2 ^ (22 + expBits w) ≤ magUnits w := by
  rw [magUnits, if_neg h.ne']
  calc 2 ^ (22 + expBits w) = 2 ^ 23 * 2 ^ (expBits w - 1) := by rw [← pow_add]; congr 1; omega
    _ ≤ (2 ^ 23 + fracBits w) * 2 ^ (expBits w - 1) := by gcongr; omega

theorem magUnits_lt_of_magBits_lt {a b : Word} (h : magBits a < magBits b) : magUnits a < magUnits b := by
  have hfa := fracBits_lt a
  have hfb := fracBits_lt b
  rw [magBits_split a, magBits_split b] at h
  rcases (show expBits a < expBits b ∨ expBits a = expBits b by omega) with he | he
  · calc magUnits a < 2 ^ (23 + expBits a) := magUnits_lt_two_pow a
      _ ≤ 2 ^ (22 + expBits b) := Nat.pow_le_pow_right two_pos (by omega)
      _ ≤ magUnits b := two_pow_le_magUnits (by omega)
  · have hf : fracBits a < fracBits b := by omega
    unfold magUnits
    rw [he]
    split
    · exact hf
    · gcongr

theorem magUnits_eq_of_magBits_eq {a b : Word} (h : magBits a = magBits b) : magUnits a = magUnits b := by
  unfold magUnits expBits fracBits
  rw [h]

theorem magUnits_lt_iff (a b : Word) : magUnits a < magUnits b ↔ magBits a < magBits b := by
  refine ⟨fun h => ?_, magUnits_lt_of_magBits_lt⟩
  rcases lt_trichotomy (magBits a) (magBits b) with hlt | heq | hgt
  · exact hlt
  · exact absurd (magUnits_eq_of_magBits_eq heq) h.ne
  · exact absurd (magUnits_lt_of_magBits_lt hgt) h.not_gt

theorem magUnits_eq_zero_iff (w : Word) : magUnits w = 0 ↔ magBits w = 0 := by
  have := magUnits_lt_iff 0#32 w
  have h0 : magUnits 0#32 = 0 := rfl
  have h1 : magBits 0#32 = 0 := rfl
  omega

theorem exactUnits_lt_iff (a b : Word) : exactUnits a < exactUnits b ↔ orderKey a < orderKey b := by
  have hab := magUnits_lt_iff a b
  have hba := magUnits_lt_iff b a
  have ha := magUnits_eq_zero_iff a
  have hb := magUnits_eq_zero_iff b
  unfold exactUnits orderKey
  cases signBit a <;> cases signBit b <;> simp only [Bool.false_eq_true, if_true, if_false] <;> omega

theorem zeroDatum_iff_magBits (w : Word) : ZeroDatum w ↔ magBits w = 0 := by
  unfold ZeroDatum magBits
  have hlt := w.isLt
  have hneg : (0x80000000#32).toNat = 2 ^ 31 := rfl
  rw [← BitVec.toNat_inj, ← BitVec.toNat_inj, BitVec.toNat_zero, hneg]
  omega

/-! ## Comparisons -/

theorem finiteDatum_not_nan {w : Word} (h : FiniteDatum w) : isNaN w = false :=
  finite_not_nan ((isFinite_iff_finiteDatum w).mpr h)

theorem flt_iff_val32 {a b : Word} (ha : FiniteDatum a) (hb : FiniteDatum b) : flt a b = true ↔ val32 a < val32 b := by
  rw [flt_eq (finiteDatum_not_nan ha) (finiteDatum_not_nan hb), decide_eq_true_iff, val32_lt_iff, exactUnits_lt_iff]

theorem fle_iff_val32 {a b : Word} (ha : FiniteDatum a) (hb : FiniteDatum b) : fle a b = true ↔ val32 a ≤ val32 b := by
  rw [fle_eq (finiteDatum_not_nan ha) (finiteDatum_not_nan hb), decide_eq_true_iff, ← not_lt, ← not_lt, val32_lt_iff,
    exactUnits_lt_iff]

theorem isZero_iff_val32 (w : Word) : isZero w = true ↔ val32 w = 0 := by
  rw [val32_eq_zero_iff, magUnits_eq_zero_iff, isZero, beq_iff_eq]

/-- A finite datum's key lies strictly between those of the infinities. -/
theorem orderKey_between {w : Word} (h : FiniteDatum w) :
    orderKey 0xFF800000#32 < orderKey w ∧ orderKey w < orderKey 0x7F800000#32 := by
  have hlt := (finiteDatum_iff_magBits_lt w).mp h
  have hpos : orderKey 0x7F800000#32 = 0x7F800000 := rfl
  have hneg : orderKey 0xFF800000#32 = -0x7F800000 := rfl
  rw [hpos, hneg]
  unfold orderKey
  split <;> omega

/-- Settles O54: the fields of R10 are the model's, and the unit of the last place is a power of two above 2^-149. -/
theorem exactUnitsAreRealValues : Obligations.ExactUnitsAreRealValues :=
  fun w => ⟨isFinite_iff_finiteDatum w, fun _ => val32_eq_units w⟩

/-- Settles O55: units are ordered as the patterns' keys, and a finite key lies between the keys of the infinities. -/
theorem comparisonsAreRealComparisons : Obligations.ComparisonsAreRealComparisons := by
  refine ⟨fun a b ha hb => ⟨flt_iff_val32 ha hb, fle_iff_val32 ha hb, isZero_iff_val32 a⟩, fun a ha => ?_⟩
  have hn := finiteDatum_not_nan ha
  have hpos : isNaN 0x7F800000#32 = false := rfl
  have hneg : isNaN 0xFF800000#32 = false := rfl
  obtain ⟨hlow, hhigh⟩ := orderKey_between ha
  rw [flt_eq hn hpos, flt_eq hneg hn, flt_eq hpos hn, flt_eq hn hneg]
  simp [hlow, hhigh, hlow.le, hhigh.le]

end Sys2Proof.Machine
end

section
/-! PROOFS. The one rounding function of the model answers rnd32 of its exact fraction (00_scope.md R11). -/

namespace Sys2Proof.Machine

open Sys2Proof.Spec

/-! ## A rounded quotient -/

/-- The rounded quotient is at most half a divisor away, and even where it is exactly half a divisor away. -/
theorem roundHalfEven_nearest (n : ℕ) {d : ℕ} (hd : 0 < d) :
    2 * (roundHalfEven n d * d) ≤ 2 * n + d ∧ 2 * n ≤ 2 * (roundHalfEven n d * d) + d ∧
      (2 * (roundHalfEven n d * d) = 2 * n + d ∨ 2 * n = 2 * (roundHalfEven n d * d) + d → roundHalfEven n d % 2 = 0) := by
  have hdiv : n / d * d + n % d = n := Nat.div_add_mod' n d
  have hmod : n % d < d := Nat.mod_lt n hd
  unfold roundHalfEven
  split
  · omega
  · split
    · rw [add_one_mul]
      omega
    · rcases Nat.mod_two_eq_zero_or_one (n / d) with he | ho
      · rw [he, add_zero]
        omega
      · rw [ho, add_one_mul]
        omega

/-- Of the multiples of a step, one at most half a step away is the nearest, and another is as near only at exactly half a step. -/
theorem nearest_of_multiples {step n r : ℤ} (hs : 0 < step) (hr : 2 * |r * step - n| ≤ step) (t : ℤ) :
    |r * step - n| ≤ |t * step - n| ∧ (t ≠ r → |t * step - n| = |r * step - n| → 2 * |r * step - n| = step) := by
  rcases eq_or_ne t r with rfl | hne
  · exact ⟨le_rfl, fun h => absurd rfl h⟩
  · have hstep : step ≤ |t * step - r * step| := by
      rw [← sub_mul, abs_mul, abs_of_pos hs]
      exact le_mul_of_one_le_left hs.le (Int.one_le_abs (sub_ne_zero.mpr hne))
    have htri := abs_sub_le (t * step) n (r * step)
    rw [abs_sub_comm n] at htri
    exact ⟨by omega, fun _ h => by omega⟩

/-! ## The significand and the exponent of a rounded fraction -/

/-- Binary places between the unit and the last place of the datum nearest to n/d units. -/
def roundShift (n d : ℕ) : ℕ := (n / d).log2 - 23

/-- The significand of the datum nearest to n/d units. -/
def roundSig (n d : ℕ) : ℕ := roundHalfEven n (d * 2 ^ roundShift n d)

theorem roundMag_eq (n d : ℕ) : roundMag n d = min (roundShift n d * 2 ^ 23 + roundSig n d) 0x7F800000 := rfl

theorem div_lt_two_pow_roundShift (n d : ℕ) : n / d < 2 ^ (24 + roundShift n d) :=
  lt_of_lt_of_le Nat.lt_log2_self (Nat.pow_le_pow_right two_pos (by unfold roundShift; omega))

theorem two_pow_roundShift_le_div {n d : ℕ} (h : 0 < roundShift n d) : 2 ^ (23 + roundShift n d) ≤ n / d := by
  have hlog : 23 + roundShift n d = (n / d).log2 := by
    unfold roundShift at h ⊢
    omega
  have h0 : n / d ≠ 0 := by
    intro h0
    simp [roundShift, h0] at h
  rw [hlog]
  exact Nat.log2_self_le h0

theorem roundSig_le (n d : ℕ) : roundSig n d ≤ 2 ^ 24 := by
  have hlt : n / (d * 2 ^ roundShift n d) < 2 ^ 24 := by
    rw [← Nat.div_div_eq_div_mul, Nat.div_lt_iff_lt_mul (by positivity), ← pow_add]
    exact div_lt_two_pow_roundShift n d
  have := (roundHalfEven_bounds n (d * 2 ^ roundShift n d)).2
  unfold roundSig
  omega

theorem le_roundSig {n d : ℕ} (h : 0 < roundShift n d) : 2 ^ 23 ≤ roundSig n d := by
  refine le_trans ?_ (roundHalfEven_bounds n (d * 2 ^ roundShift n d)).1
  rw [← Nat.div_div_eq_div_mul, Nat.le_div_iff_mul_le (by positivity), ← pow_add]
  exact two_pow_roundShift_le_div h

/-- `roundHalfEven_nearest` at the significand, whose last place is 2^k units. -/
theorem roundSig_bounds (n : ℕ) {d : ℕ} (hd : 0 < d) :
    2 * (roundSig n d * (d * 2 ^ roundShift n d)) ≤ 2 * n + d * 2 ^ roundShift n d ∧
      2 * n ≤ 2 * (roundSig n d * (d * 2 ^ roundShift n d)) + d * 2 ^ roundShift n d ∧
      (2 * (roundSig n d * (d * 2 ^ roundShift n d)) = 2 * n + d * 2 ^ roundShift n d ∨
        2 * n = 2 * (roundSig n d * (d * 2 ^ roundShift n d)) + d * 2 ^ roundShift n d → roundSig n d % 2 = 0) :=
  roundHalfEven_nearest n (Nat.mul_pos hd (Nat.two_pow_pos (roundShift n d)))

/-- The significand's error in the integers, times d: at most half a last place, and even at exactly half. -/
theorem roundSig_error (n : ℕ) {d : ℕ} (hd : 0 < d) :
    2 * |(roundSig n d : ℤ) * (d * 2 ^ roundShift n d) - n| ≤ d * 2 ^ roundShift n d ∧
      (2 * |(roundSig n d : ℤ) * (d * 2 ^ roundShift n d) - n| = d * 2 ^ roundShift n d → roundSig n d % 2 = 0) := by
  have hbounds := roundSig_bounds n hd
  zify at hbounds ⊢
  generalize (roundSig n d : ℤ) * (d * 2 ^ roundShift n d) = p at *
  generalize (d * 2 ^ roundShift n d : ℤ) = step at *
  rcases abs_cases (p - n) with ⟨h, _⟩ | ⟨h, _⟩ <;> omega

/-- The pattern `roundMag` builds has the significand times its last place as its units, carry into the exponent included. -/
theorem magUnits_of_magBits {w : Word} {k m : ℕ} (hw : magBits w = k * 2 ^ 23 + m) (hm : m ≤ 2 ^ 24) (hk : 0 < k → 2 ^ 23 ≤ m) :
    magUnits w = m * 2 ^ k := by
  unfold magUnits expBits fracBits
  rw [hw]
  rcases (show (k = 0 ∧ m < 2 ^ 23) ∨ (2 ^ 23 ≤ m ∧ m < 2 ^ 24) ∨ m = 2 ^ 24 by omega) with ⟨rfl, h⟩ | ⟨h, h'⟩ | rfl
  · rw [if_pos (by omega), pow_zero]
    omega
  · rw [if_neg (by omega), show (k * 2 ^ 23 + m) / 2 ^ 23 = k + 1 by omega, show (k * 2 ^ 23 + m) % 2 ^ 23 = m - 2 ^ 23 by omega,
      Nat.add_sub_cancel' h, Nat.add_sub_cancel]
  · rw [if_neg (by omega), show (k * 2 ^ 23 + 2 ^ 24) / 2 ^ 23 = k + 1 + 1 by omega,
      show (k * 2 ^ 23 + 2 ^ 24) % 2 ^ 23 = 0 by omega, Nat.add_sub_cancel, add_zero, pow_succ 2 k]
    ring

/-- A datum is a multiple of 2^k units, or it is below every datum whose last place is 2^k units. -/
theorem exactUnits_dvd_or_small (w : Word) (k : ℕ) : (2 : ℤ) ^ k ∣ exactUnits w ∨ (0 < k ∧ |exactUnits w| < 2 ^ (23 + k)) := by
  rcases Nat.eq_zero_or_pos k with rfl | hk
  · exact .inl (by simp)
  rcases le_or_gt (expBits w) k with he | he
  · refine .inr ⟨hk, ?_⟩
    rw [abs_exactUnits]
    exact_mod_cast lt_of_lt_of_le (magUnits_lt_two_pow w) (Nat.pow_le_pow_right two_pos (by omega))
  · refine .inl ?_
    rw [exactUnits_eq, magUnits, if_neg (by omega)]
    push_cast
    exact Dvd.dvd.mul_left (Dvd.dvd.mul_left (pow_dvd_pow 2 (by omega)) _) _

/-- No datum is nearer to n/d units than the rounded one, and another is as near only if the rounded significand is even.
Stated times d, of the units `y` of any datum or its opposite. -/
theorem roundSig_nearest_datum (n : ℕ) {d : ℕ} (hd : 0 < d) {y : ℤ}
    (hy : (2 : ℤ) ^ roundShift n d ∣ y ∨ (0 < roundShift n d ∧ |y| < 2 ^ (23 + roundShift n d))) :
    |(roundSig n d * 2 ^ roundShift n d : ℤ) * d - n| ≤ |y * d - n| ∧
      (y ≠ roundSig n d * 2 ^ roundShift n d → |y * d - n| = |(roundSig n d * 2 ^ roundShift n d : ℤ) * d - n| →
        roundSig n d % 2 = 0) := by
  have hd' : (0 : ℤ) < d := by exact_mod_cast hd
  obtain ⟨hhalf, heven⟩ := roundSig_error n hd
  rw [mul_comm (d : ℤ)] at hhalf heven
  have hgrid := nearest_of_multiples (by positivity) hhalf
  simp only [← mul_assoc] at hgrid heven
  rcases hy with ⟨t, rfl⟩ | ⟨hk, hsmall⟩
  · rw [mul_comm _ t]
    obtain ⟨hle, htie⟩ := hgrid t
    exact ⟨hle, fun hne h => heven (htie (fun htr => hne (by rw [htr])) h)⟩
  · have hle := (hgrid (2 ^ 23)).1
    rw [← pow_add] at hle
    have hyd : y * d < 2 ^ (23 + roundShift n d) * d := mul_lt_mul_of_pos_right (lt_of_abs_lt hsmall) hd'
    have hnd : (2 : ℤ) ^ (23 + roundShift n d) * d ≤ n := by
      exact_mod_cast (Nat.le_div_iff_mul_le hd).mp (two_pow_roundShift_le_div hk)
    rw [abs_of_nonpos (sub_nonpos.mpr hnd)] at hle
    rw [abs_of_neg (show y * d - n < 0 by omega)]
    exact ⟨by omega, fun _ h => by omega⟩

/-! ## Overflow -/

/-- What `roundMag` reaches before it is cut off at Infinity reaches Infinity exactly from 2^128 - 2^103 on. -/
theorem infinity_le_iff (n : ℕ) {d : ℕ} (hd : 0 < d) :
    0x7F800000 ≤ roundShift n d * 2 ^ 23 + roundSig n d ↔ (2 ^ 25 - 1) * 2 ^ 252 * d ≤ n := by
  have hsig := roundSig_le n d
  rcases lt_trichotomy (roundShift n d) 253 with hk | hk | hk
  · have hdiv : n / d < 2 ^ 24 * 2 ^ 252 := by
      refine lt_of_lt_of_le (div_lt_two_pow_roundShift n d) ?_
      rw [pow_add]
      exact Nat.mul_le_mul_left _ (Nat.pow_le_pow_right two_pos (by omega))
    have hn : n < 2 ^ 24 * 2 ^ 252 * d := (Nat.div_lt_iff_lt_mul hd).mp hdiv
    omega
  · obtain ⟨hlow, hhigh, htie⟩ := roundSig_bounds n hd
    rw [hk] at hlow hhigh htie ⊢
    rcases (show roundSig n d = 2 ^ 24 ∨ roundSig n d = 2 ^ 24 - 1 ∨ roundSig n d ≤ 2 ^ 24 - 2 by omega) with hs | hs | hs
    · rw [hs] at hlow ⊢
      omega
    · rw [hs] at hhigh htie ⊢
      omega
    · have := Nat.mul_le_mul_right (d * 2 ^ 253) hs
      omega
  · have hdiv : 2 ^ 23 * 2 ^ 254 ≤ n / d := by
      refine le_trans ?_ (two_pow_roundShift_le_div (by omega))
      rw [pow_add]
      exact Nat.mul_le_mul_left _ (Nat.pow_le_pow_right two_pos (by omega))
    have hn : 2 ^ 23 * 2 ^ 254 * d ≤ n := (Nat.le_div_iff_mul_le hd).mp hdiv
    have hsig' := le_roundSig (n := n) (d := d) (by omega)
    omega

/-- The same bound on the real value. -/
theorem overflow_iff (n : ℕ) {d : ℕ} (hd : 0 < d) :
    (2 : ℚ) ^ 128 - 2 ^ 103 ≤ n / d * 2 ^ (-149 : ℤ) ↔ 0x7F800000 ≤ roundShift n d * 2 ^ 23 + roundSig n d := by
  have hbound : ((2 : ℚ) ^ 128 - 2 ^ 103) * 2 ^ 149 * d = (((2 ^ 25 - 1) * 2 ^ 252 * d : ℕ) : ℚ) := by
    push_cast
    norm_num
  rw [infinity_le_iff n hd, zpow_neg, ← div_eq_mul_inv, le_div_iff₀ (by positivity), le_div_iff₀ (by exact_mod_cast hd),
    ← Nat.cast_le (α := ℚ), ← hbound]
  norm_num

/-! ## The rounded datum -/

theorem magBits_roundUnits (neg : Bool) (n d : ℕ) : magBits (roundUnits neg n d) = roundMag n d :=
  magBits_pack neg (lt_of_le_of_lt (roundMag_le n d) (by decide))

@[simp] theorem signBit_roundUnits (neg : Bool) (n d : ℕ) : signBit (roundUnits neg n d) = neg :=
  signBit_pack neg (lt_of_le_of_lt (roundMag_le n d) (by decide))

theorem roundUnits_of_overflow (neg : Bool) {n d : ℕ} (h : 0x7F800000 ≤ roundShift n d * 2 ^ 23 + roundSig n d) :
    roundUnits neg n d = pack neg 0x7F800000 := by
  rw [roundUnits, roundMag_eq, min_eq_right h]

/-- Without overflow the rounded datum is its significand times its last place. -/
theorem roundUnits_of_no_overflow (neg : Bool) {n d : ℕ} (h : roundShift n d * 2 ^ 23 + roundSig n d < 0x7F800000) :
    FiniteDatum (roundUnits neg n d) ∧
      exactUnits (roundUnits neg n d) = signOf neg * (roundSig n d * 2 ^ roundShift n d) ∧
      fracOf (roundUnits neg n d) % 2 = roundSig n d % 2 := by
  have hw : magBits (roundUnits neg n d) = roundShift n d * 2 ^ 23 + roundSig n d := by
    rw [magBits_roundUnits, roundMag_eq, min_eq_left h.le]
  refine ⟨?_, ?_, ?_⟩
  · rwa [finiteDatum_iff_magBits_lt, hw]
  · rw [exactUnits_eq, signBit_roundUnits, magUnits_of_magBits hw (roundSig_le n d) le_roundSig]
    push_cast
    rfl
  · rw [fracOf_eq_fracBits, fracBits, hw]
    omega

/-- The distance of a datum from ±(n/d) units, in units and times d. -/
theorem abs_val32_sub (w : Word) (neg : Bool) (n : ℕ) {d : ℕ} (hd : 0 < d) :
    |val32 w - signOf neg * (n / d * 2 ^ (-149 : ℤ))| =
      (|signOf neg * exactUnits w * d - n| : ℤ) * ((2 : ℚ) ^ (-149 : ℤ) / d) := by
  have hd' : (0 : ℚ) < d := by exact_mod_cast hd
  have hsq : (signOf neg : ℚ) * signOf neg = 1 := by exact_mod_cast signOf_mul_self neg
  have habs : |(signOf neg : ℚ)| = 1 := by exact_mod_cast abs_signOf neg
  have hscale : val32 w - signOf neg * (n / d * 2 ^ (-149 : ℤ)) =
      signOf neg * (signOf neg * exactUnits w * d - n) * (2 ^ (-149 : ℤ) / d) :=
    calc val32 w - signOf neg * (n / d * 2 ^ (-149 : ℤ))
        = signOf neg * signOf neg * exactUnits w * 2 ^ (-149 : ℤ) - signOf neg * (n / d * 2 ^ (-149 : ℤ)) := by
          rw [hsq, one_mul, val32_eq_units]
      _ = signOf neg * (signOf neg * exactUnits w * d - n) * (2 ^ (-149 : ℤ) / d) := by
          field_simp
  rw [hscale, abs_mul, abs_mul, habs, one_mul, abs_of_pos (div_pos unit_pos hd')]
  push_cast
  rfl

/-- `roundUnits` is rnd32 of ±(n/d) units of 2^-149. -/
theorem isRnd32_roundUnits (neg : Bool) (n : ℕ) {d : ℕ} (hd : 0 < d) :
    IsRnd32 (signOf neg * (n / d * 2 ^ (-149 : ℤ))) (roundUnits neg n d) := by
  have hnonneg : (0 : ℚ) ≤ n / d * 2 ^ (-149 : ℤ) := by positivity
  have hpos : (0 : ℚ) < 2 ^ 128 - 2 ^ 103 := by norm_num
  refine ⟨fun h => ?_, fun h => ?_, fun h => ?_⟩
  · cases neg
    · rw [signOf_false, Int.cast_one, one_mul, overflow_iff n hd] at h
      rw [roundUnits_of_overflow false h]
      rfl
    · rw [signOf_true, Int.cast_neg, Int.cast_one, neg_one_mul] at h
      linarith
  · cases neg
    · rw [signOf_false, Int.cast_one, one_mul] at h
      linarith
    · rw [signOf_true, Int.cast_neg, Int.cast_one, neg_one_mul, neg_le_neg_iff, overflow_iff n hd] at h
      rw [roundUnits_of_overflow true h]
      rfl
  · have hsign : |(signOf neg : ℚ)| = 1 := by exact_mod_cast abs_signOf neg
    rw [abs_mul, hsign, one_mul, abs_of_nonneg hnonneg, ← not_le, overflow_iff n hd, not_le] at h
    obtain ⟨hfin, hunits, hfrac⟩ := roundUnits_of_no_overflow neg h
    have hunit : (0 : ℚ) < 2 ^ (-149 : ℤ) / d := div_pos unit_pos (by exact_mod_cast hd)
    have hown : signOf neg * exactUnits (roundUnits neg n d) = roundSig n d * 2 ^ roundShift n d := by
      rw [hunits, ← mul_assoc, signOf_mul_self, one_mul]
    have hnear := fun w => roundSig_nearest_datum n hd (y := signOf neg * exactUnits w)
      ((exactUnits_dvd_or_small w _).imp (·.mul_left _) fun h => by simpa [abs_mul] using h)
    simp only [abs_val32_sub _ neg n hd, hown, hfrac]
    refine ⟨hfin, fun w _ => ?_, fun w _ hne heq => ?_⟩
    · exact mul_le_mul_of_nonneg_right (by exact_mod_cast (hnear w).1) hunit.le
    · refine (hnear w).2 (fun hy => hne ?_) (by exact_mod_cast mul_right_cancel₀ hunit.ne' heq)
      rw [← hown] at hy
      rw [val32_eq_units, val32_eq_units, mul_left_cancel₀ (left_ne_zero_of_mul_eq_one (signOf_mul_self neg)) hy]

end Sys2Proof.Machine
end

section
/-! PROOFS. The four primitives and float(n) round once (00_scope.md R11, R15). -/

namespace Sys2Proof.Machine

open Sys2Proof.Spec

/-! ## Sign changes -/

theorem magBits_eq_setWidth (w : Word) : magBits w = (w.setWidth 31).toNat := rfl

@[simp] theorem magBits_negate (w : Word) : magBits (negate w) = magBits w := by
  have h : (0x80000000#32).setWidth 31 = 0#31 := by decide
  rw [magBits_eq_setWidth, magBits_eq_setWidth, negate, BitVec.setWidth_xor, h, BitVec.xor_zero]

@[simp] theorem signBit_negate (w : Word) : signBit (negate w) = !signBit w := by
  have h : (0x80000000#32).msb = true := by decide
  simp only [signBit, negate, BitVec.msb_xor, h, Bool.xor_true]

@[simp] theorem magBits_fabs (w : Word) : magBits (fabs w) = magBits w := by
  have h : (0x7FFFFFFF#32).setWidth 31 = BitVec.allOnes 31 := by decide
  rw [magBits_eq_setWidth, magBits_eq_setWidth, fabs, BitVec.setWidth_and, h, BitVec.and_allOnes]

@[simp] theorem signBit_fabs (w : Word) : signBit (fabs w) = false := by
  have h : (0x7FFFFFFF#32).msb = false := by decide
  simp only [signBit, fabs, BitVec.msb_and, h, Bool.and_false]

theorem exactUnits_negate (w : Word) : exactUnits (negate w) = -exactUnits w := by
  rw [exactUnits_eq, exactUnits_eq, magUnits_eq_of_magBits_eq (magBits_negate w), signBit_negate]
  cases signBit w <;> simp

theorem val32_negate (w : Word) : val32 (negate w) = -val32 w := by
  rw [val32_eq_units, val32_eq_units, exactUnits_negate, Int.cast_neg, neg_mul]

theorem val32_fabs (w : Word) : val32 (fabs w) = |val32 w| := by
  rw [val32_eq_units, val32_eq_units, abs_mul, abs_of_pos unit_pos, ← Int.cast_abs, abs_exactUnits, exactUnits_eq,
    magUnits_eq_of_magBits_eq (magBits_fabs w), signBit_fabs, signOf_false, one_mul]

/-! ## The primitives -/

theorem signOf_mul_natAbs (n : ℤ) : signOf (decide (n < 0)) * n.natAbs = n := by
  rcases lt_or_ge n 0 with h | h
  · simp only [h, decide_true, signOf_true]
    omega
  · simp only [h.not_gt, decide_false, signOf_false]
    omega

/-- Zero included, a sum of finite data is one rounding of the exact sum, which has a sign that fits it. -/
theorem addFinite_eq (a b : Word) :
    ∃ neg, addFinite a b = roundUnits neg (exactUnits a + exactUnits b).natAbs 1 ∧
      signOf neg * (exactUnits a + exactUnits b).natAbs = exactUnits a + exactUnits b := by
  unfold addFinite
  generalize exactUnits a + exactUnits b = n
  by_cases h : n = 0
  · subst h
    exact ⟨_, rfl, by simp⟩
  · exact ⟨_, if_neg h, signOf_mul_natAbs n⟩

theorem isRnd32_addFinite (a b : Word) : IsRnd32 (val32 a + val32 b) (addFinite a b) := by
  obtain ⟨neg, hsum, hsign⟩ := addFinite_eq a b
  have hval : val32 a + val32 b = signOf neg * ((exactUnits a + exactUnits b).natAbs / (1 : ℕ) * 2 ^ (-149 : ℤ)) := by
    rw [val32_eq_units, val32_eq_units, ← add_mul, ← Int.cast_add, Nat.cast_one, div_one, ← mul_assoc, ← Int.cast_natCast,
      ← Int.cast_mul, hsign]
  rw [hsum, hval]
  exact isRnd32_roundUnits neg _ one_pos

/-- An exact zero sum is +0 unless both signs are set. -/
theorem addFinite_of_sum_zero {a b : Word} (h : exactUnits a + exactUnits b = 0) (hs : (signBit a && signBit b) = false) :
    addFinite a b = 0#32 := by
  rw [addFinite, if_pos h, hs]
  rfl

theorem val32_add_eq_zero_iff (a b : Word) : val32 a + val32 b = 0 ↔ exactUnits a + exactUnits b = 0 := by
  rw [val32_eq_units, val32_eq_units, ← add_mul, mul_eq_zero_iff_right unit_pos.ne', ← Int.cast_add, Int.cast_eq_zero]

theorem val32_eq_sign_mul (w : Word) : val32 w = signOf (signBit w) * magUnits w * 2 ^ (-149 : ℤ) := by
  rw [val32_eq_units, exactUnits_eq]
  push_cast
  rfl

theorem isRnd32_product (a b : Word) :
    IsRnd32 (val32 a * val32 b) (roundUnits (signBit a != signBit b) (magUnits a * magUnits b) (2 ^ 149)) := by
  have hval : val32 a * val32 b = signOf (signBit a != signBit b) *
      ((magUnits a * magUnits b : ℕ) / (2 ^ 149 : ℕ) * 2 ^ (-149 : ℤ)) := by
    rw [val32_eq_sign_mul, val32_eq_sign_mul, signOf_bne, zpow_neg]
    push_cast
    ring
  rw [hval]
  exact isRnd32_roundUnits _ _ (by positivity)

theorem isRnd32_quotient (a : Word) {b : Word} (hb : magUnits b ≠ 0) :
    IsRnd32 (val32 a / val32 b) (roundUnits (signBit a != signBit b) (magUnits a * 2 ^ 149) (magUnits b)) := by
  have hinv : (signOf (signBit b) : ℚ)⁻¹ = signOf (signBit b) :=
    inv_eq_of_mul_eq_one_left (by exact_mod_cast signOf_mul_self (signBit b))
  have hval : val32 a / val32 b = signOf (signBit a != signBit b) *
      ((magUnits a * 2 ^ 149 : ℕ) / magUnits b * 2 ^ (-149 : ℤ)) := by
    rw [val32_eq_sign_mul, val32_eq_sign_mul, mul_div_mul_right _ _ unit_pos.ne', mul_div_mul_comm, div_eq_mul_inv, hinv,
      signOf_bne, zpow_neg]
    push_cast
    field_simp
  rw [hval]
  exact isRnd32_roundUnits _ _ (Nat.pos_of_ne_zero hb)

theorem magUnits_ne_zero_iff (w : Word) : magUnits w ≠ 0 ↔ ¬ ZeroDatum w := by
  rw [zeroDatum_iff_magBits, Ne, magUnits_eq_zero_iff]

section

variable {a b : Word} (ha : FiniteDatum a) (hb : FiniteDatum b)
include ha hb

theorem fadd_eq_addFinite : fadd a b = addFinite a b :=
  fadd_finite ((isFinite_iff_finiteDatum a).mpr ha) ((isFinite_iff_finiteDatum b).mpr hb)

theorem fsub_eq_addFinite : fsub a b = addFinite a (negate b) :=
  fsub_finite ((isFinite_iff_finiteDatum a).mpr ha) ((isFinite_iff_finiteDatum b).mpr hb)

theorem fmul_eq_roundUnits : fmul a b = roundUnits (signBit a != signBit b) (magUnits a * magUnits b) (2 ^ 149) :=
  fmul_finite ((isFinite_iff_finiteDatum a).mpr ha) ((isFinite_iff_finiteDatum b).mpr hb)

theorem fdiv_eq_roundUnits (h0 : ¬ ZeroDatum b) :
    fdiv a b = roundUnits (signBit a != signBit b) (magUnits a * 2 ^ 149) (magUnits b) :=
  fdiv_finite ((isFinite_iff_finiteDatum a).mpr ha) ((isFinite_iff_finiteDatum b).mpr hb) ((magUnits_ne_zero_iff b).mpr h0)

theorem isRnd32_fadd : IsRnd32 (val32 a + val32 b) (fadd a b) := by
  rw [fadd_eq_addFinite ha hb]
  exact isRnd32_addFinite a b

theorem isRnd32_fsub : IsRnd32 (val32 a - val32 b) (fsub a b) := by
  rw [fsub_eq_addFinite ha hb, sub_eq_add_neg, ← val32_negate]
  exact isRnd32_addFinite a (negate b)

theorem isRnd32_fmul : IsRnd32 (val32 a * val32 b) (fmul a b) := by
  rw [fmul_eq_roundUnits ha hb]
  exact isRnd32_product a b

theorem isRnd32_fdiv (h0 : ¬ ZeroDatum b) : IsRnd32 (val32 a / val32 b) (fdiv a b) := by
  rw [fdiv_eq_roundUnits ha hb h0]
  exact isRnd32_quotient a ((magUnits_ne_zero_iff b).mpr h0)

theorem signBit_fmul : signBit (fmul a b) = (signBit a != signBit b) := by
  rw [fmul_eq_roundUnits ha hb, signBit_roundUnits]

theorem signBit_fdiv (h0 : ¬ ZeroDatum b) : signBit (fdiv a b) = (signBit a != signBit b) := by
  rw [fdiv_eq_roundUnits ha hb h0, signBit_roundUnits]

/-- A cancellation of opposite signs is +0. -/
theorem fadd_of_sum_zero (h : val32 a + val32 b = 0) (hs : signBit a ≠ signBit b) : fadd a b = 0#32 := by
  rw [fadd_eq_addFinite ha hb]
  refine addFinite_of_sum_zero ((val32_add_eq_zero_iff a b).mp h) ?_
  rw [Bool.and_eq_false_iff]
  cases hsa : signBit a
  · exact .inl rfl
  · exact .inr (by simpa [hsa] using hs)

end

theorem fsub_self {a : Word} (ha : FiniteDatum a) : fsub a a = 0#32 := by
  rw [fsub_eq_addFinite ha ha]
  refine addFinite_of_sum_zero ?_ ?_
  · rw [exactUnits_negate, add_neg_cancel]
  · rw [signBit_negate, Bool.and_not_self]

theorem fracOf_fabs (w : Word) : fracOf (fabs w) = fracOf w := by
  rw [fracOf_eq_fracBits, fracOf_eq_fracBits, fracBits, magBits_fabs, fracBits]

theorem expOf_fabs (w : Word) : expOf (fabs w) = expOf w := by
  rw [expOf_eq_expBits, expOf_eq_expBits, expBits, magBits_fabs, expBits]

/-- Settles O53: each primitive is one `roundUnits` of its exact fraction, and the sign is the one handed to it. -/
theorem primitivesRoundOnce : Obligations.PrimitivesRoundOnce := fun a _ ha hb =>
  ⟨isRnd32_fadd ha hb, isRnd32_fsub ha hb, isRnd32_fmul ha hb, isRnd32_fdiv ha hb,
    ⟨val32_fabs a, signBit_fabs a, fracOf_fabs a, expOf_fabs a⟩, fadd_of_sum_zero ha hb, fsub_self ha,
    fun _ => signBit_fmul ha hb, fun h0 _ => signBit_fdiv ha hb h0⟩

/-! ## Integers -/

/-- What a datum's units can say exactly is rounded to itself. -/
theorem exactUnits_roundUnits_of_dvd (neg : Bool) {n : ℕ} (hn : n < (2 ^ 25 - 1) * 2 ^ 252) (hdvd : 2 ^ roundShift n 1 ∣ n) :
    FiniteDatum (roundUnits neg n 1) ∧ exactUnits (roundUnits neg n 1) = signOf neg * n := by
  have hno : roundShift n 1 * 2 ^ 23 + roundSig n 1 < 0x7F800000 := by
    rw [← not_le, infinity_le_iff n one_pos]
    omega
  obtain ⟨hfin, hunits, -⟩ := roundUnits_of_no_overflow neg hno
  refine ⟨hfin, ?_⟩
  obtain ⟨q, hq⟩ := hdvd
  have hsig : roundSig n 1 = q := by
    rw [roundSig, one_mul]
    conv_lhs => arg 1; rw [hq, mul_comm]
    exact roundHalfEven_exact q (Nat.two_pow_pos _)
  rw [hunits, hsig]
  conv_rhs => rw [hq]
  push_cast
  ring

theorem roundShift_dvd {m : ℕ} (hm : m ≤ 2 ^ 24) : 2 ^ roundShift (m * 2 ^ 149) 1 ∣ m * 2 ^ 149 := by
  rcases hm.lt_or_eq with h | rfl
  · refine Dvd.dvd.mul_left (pow_dvd_pow 2 ?_) m
    by_contra hk
    have := two_pow_roundShift_le_div (n := m * 2 ^ 149) (d := 1) (by omega)
    have : 2 ^ 173 ≤ 2 ^ (23 + roundShift (m * 2 ^ 149) 1) := Nat.pow_le_pow_right two_pos (by omega)
    omega
  · decide

theorem floatOf_exact {n : ℤ} (hn : |n| ≤ 2 ^ 24) : FiniteDatum (floatOf n) ∧ exactUnits (floatOf n) = n * 2 ^ 149 := by
  have hm : n.natAbs ≤ 2 ^ 24 := by
    zify
    exact hn
  obtain ⟨hfin, hunits⟩ := exactUnits_roundUnits_of_dvd (decide (n < 0)) (by omega) (roundShift_dvd hm)
  refine ⟨hfin, hunits.trans ?_⟩
  rw [Nat.cast_mul, ← mul_assoc, signOf_mul_natAbs]
  rfl

/-- Settles O56: the datum's last place divides the integer. -/
theorem floatOfSmallIntegerIsExact : Obligations.FloatOfSmallIntegerIsExact := by
  intro n hn
  obtain ⟨hfin, hunits⟩ := floatOf_exact hn
  refine ⟨hfin, ?_⟩
  rw [val32_eq_units, hunits, zpow_neg]
  push_cast
  field_simp

end Sys2Proof.Machine
end

section
/-! PROOFS. The invariants of the state (10_state.md R54): the spec's six items are the model's form, they hold at reset, and
every step keeps them. -/

namespace Sys2Proof.Machine

open Sys2Proof.Spec

/-! ## Command words -/

theorem encode_wellFormed (i : Instr) : CommandWord.WellFormed (encode i) := by cases i <;> decide

theorem opcodeField_encode (i : Instr) : (opcodeField (encode i)).toNat = i.opcode := by cases i <;> rfl

/-- A word is its reserved bits above its opcode field. -/
theorem word_eq_of_fields {v w : Word} (hr : v.extractLsb' 8 24 = w.extractLsb' 8 24) (ho : opcodeField v = opcodeField w) :
    v = w := by
  have hv : ∀ u : Word, u.toNat = (u.extractLsb' 8 24).toNat * 256 + (opcodeField u).toNat := by
    intro u
    simp only [opcodeField, BitVec.extractLsb'_toNat, Nat.shiftRight_eq_div_pow]
    omega
  exact BitVec.eq_of_toNat_eq (by rw [hv v, hv w, hr, ho])

/-- A word with its reserved bits clear is the command of its opcode. -/
theorem eq_encode_of_fields {w : Word} {i : Instr} (hr : reservedClear w) (ho : (opcodeField w).toNat = i.opcode) :
    w = encode i :=
  word_eq_of_fields (hr.trans (encode_wellFormed i).1.symm) (BitVec.eq_of_toNat_eq (ho.trans (opcodeField_encode i).symm))

theorem eq_encode_of_decode {w : Word} {i : Instr} (h : decode w = .ok i) : w = encode i :=
  eq_encode_of_fields (decode_ok_fields h).1 (decode_ok_fields h).2

/-! ## Normalized samples -/

/-- A factor common to a fraction's two sides is not seen by the rounding. -/
theorem roundHalfEven_mul_right (n d : ℕ) {c : ℕ} (hc : 0 < c) : roundHalfEven (n * c) (d * c) = roundHalfEven n d := by
  have hlt : ∀ x y : ℕ, x * c < y * c ↔ x < y := fun x y => Nat.mul_lt_mul_right hc
  simp only [roundHalfEven, Nat.mul_div_mul_right _ _ hc, Nat.mul_mod_mul_right, ← Nat.mul_assoc, hlt]

theorem roundUnits_mul_right (neg : Bool) (n d : ℕ) {c : ℕ} (hc : 0 < c) :
    roundUnits neg (n * c) (d * c) = roundUnits neg n d := by
  simp only [roundUnits, roundMag, Nat.mul_div_mul_right _ _ hc, Nat.mul_right_comm d c, roundHalfEven_mul_right _ _ hc]

/-- The last place of a significand of at most 24 bits divides it. -/
theorem roundShift_dvd_of_lt {m : ℕ} (k : ℕ) (hm : m < 2 ^ 24) : 2 ^ roundShift (m * 2 ^ k) 1 ∣ m * 2 ^ k := by
  refine Dvd.dvd.mul_left (pow_dvd_pow 2 ?_) m
  by_contra hk
  have hlow := two_pow_roundShift_le_div (n := m * 2 ^ k) (d := 1) (by omega)
  have hhigh : m * 2 ^ k < 2 ^ (23 + roundShift (m * 2 ^ k) 1) :=
    calc m * 2 ^ k < 2 ^ 24 * 2 ^ k := by gcongr
      _ = 2 ^ (24 + k) := (pow_add 2 24 k).symm
      _ ≤ 2 ^ (23 + roundShift (m * 2 ^ k) 1) := Nat.pow_le_pow_right two_pos (by omega)
  rw [Nat.div_one] at hlow
  exact absurd hhigh hlow.not_gt

theorem convertSample_eq (s : Sample) :
    convertSample s = roundUnits (decide (s.toInt < 0)) (s.toInt.natAbs * 2 ^ 134) 1 := by
  have hsplit : s.toInt.natAbs * 2 ^ 149 = s.toInt.natAbs * 2 ^ 134 * 32768 := by omega
  rw [convertSample, rnd32, hsplit]
  exact roundUnits_mul_right _ _ 1 (by decide)

theorem sample_bounds (s : Sample) : -32768 ≤ s.toInt ∧ s.toInt ≤ 32767 := by
  have := s.le_toInt
  have := s.toInt_lt
  omega

/-- CONVERT divides a sample by 32768 exactly (44_fixed_point_clamper.md R201). -/
theorem convertSample_exact (s : Sample) :
    FiniteDatum (convertSample s) ∧ exactUnits (convertSample s) = s.toInt * 2 ^ 134 := by
  have hs := sample_bounds s
  obtain ⟨hfin, hunits⟩ := exactUnits_roundUnits_of_dvd (decide (s.toInt < 0)) (n := s.toInt.natAbs * 2 ^ 134) (by omega)
    (roundShift_dvd_of_lt 134 (by omega))
  rw [convertSample_eq]
  refine ⟨hfin, hunits.trans ?_⟩
  rw [Nat.cast_mul, ← mul_assoc, signOf_mul_natAbs]
  rfl

/-- The sign of a converted sample is the sample's, so a zero sample is +0 and none is -0. -/
theorem convertSample_ne_negZero (s : Sample) : convertSample s ≠ 0x80000000#32 := by
  intro h
  have hunits := (convertSample_exact s).2
  have hzero : exactUnits 0x80000000#32 = 0 := rfl
  have hsign : signBit (convertSample s) = decide (s.toInt < 0) := by rw [convertSample_eq, signBit_roundUnits]
  have hneg : signBit 0x80000000#32 = true := rfl
  rw [h, hzero] at hunits
  rw [h, hneg, eq_comm, decide_eq_true_iff] at hsign
  omega

theorem convertSample_normalized (s : Sample) : NormalizedSample (convertSample s) := by
  obtain ⟨hfin, hunits⟩ := convertSample_exact s
  obtain ⟨hlow, hhigh⟩ := sample_bounds s
  exact ⟨(isFinite_iff_finiteDatum _).mpr hfin, convertSample_ne_negZero s, s.toInt, hlow, hhigh, hunits⟩

theorem convertBody_x_normalized (b : Block) : NormalizedFrame (convertBody b).x := by
  intro i h
  rw [convertBody_x, mapAll_get]
  exact convertSample_normalized _

theorem normalizedSample_zero : NormalizedSample 0x00000000#32 :=
  ⟨rfl, by decide, 0, by decide, by decide, rfl⟩

/-- A normalized sample is finite and at most 1 in magnitude. -/
theorem normalizedSample_bounds {w : Word} (h : NormalizedSample w) : FiniteDatum w ∧ |val32 w| ≤ 1 := by
  obtain ⟨hfin, -, k, hlow, hhigh, hunits⟩ := h
  refine ⟨(isFinite_iff_finiteDatum w).mp hfin, ?_⟩
  have hval : val32 w = k / 32768 := by
    rw [val32_eq_units, hunits, zpow_neg]
    push_cast
    ring
  have hk : |(k : ℚ)| ≤ 32768 := by exact_mod_cast abs_le.mpr ⟨hlow, by omega⟩
  rw [hval, abs_div, abs_of_pos (show (0 : ℚ) < 32768 by norm_num), div_le_one (by norm_num)]
  exact hk

/-! ## The spec's form and the model's -/

theorem busy_iff_pending_iff (b : Block) :
    (b.status.busy = true ↔ b.pending ≠ none) ↔ b.status.busy = b.pending.isSome := by
  rw [← Option.isSome_iff_ne_none, Bool.coe_iff_coe]

/-- The six items of R54 are the model's invariant: what it does not repeat, the types say. -/
theorem reachable_iff_inv (b : Block) : Reachable b ↔ b.Inv := by
  constructor
  · rintro ⟨⟨hbusy, hpending⟩, hdone, ⟨-, hnote⟩, hx, -, hcmd⟩
    exact ⟨(busy_iff_pending_iff b).mp hbusy, fun i hi => eq_encode_of_fields hcmd.1 (hpending i hi).symm, hdone, hnote,
      fun i hi => (hx i hi).1, hcmd⟩
  · rintro ⟨hbusy, hpending, hdone, hnote, hx, hcmd⟩
    refine ⟨⟨(busy_iff_pending_iff b).mpr hbusy, fun i hi => ?_⟩, hdone, ⟨by omega, hnote⟩,
      fun i hi => ⟨hx i hi, normalizedSample_bounds (hx i hi)⟩,
      fun i hi => ⟨sample_bounds b.inp[i], sample_bounds b.out[i]⟩, hcmd⟩
    rw [hpending i hi]
    exact (opcodeField_encode i).symm

theorem inv_reset : Block.reset.Inv where
  busy_iff_pending := rfl
  pending_is_cmd _ hi := nomatch hi
  busy_not_done hb := nomatch hb
  noteidx_legal := .inr rfl
  x_normalized i hi := by
    rw [show Block.reset.x[i] = 0x00000000#32 from fill_get _ i hi]
    exact normalizedSample_zero
  cmd_legal := by decide

/-- Settles O8: X is all +0, NOTEIDX 15, nothing pending, and the command word is NOP's. -/
theorem invariantsHoldAtReset : Obligations.InvariantsHoldAtReset :=
  ⟨(reachable_iff_inv Block.reset).mpr inv_reset, inv_reset⟩

/-! ## Transactions keep the invariant -/

/-- The invariant reads BUSY, pending, CMD, NOTEIDX, X and, while busy, DONE. -/
theorem inv_of_eq {b c : Block} (h : b.Inv) (hbusy : c.status.busy = b.status.busy) (hpending : c.pending = b.pending)
    (hcmd : c.cmd = b.cmd) (hdone : b.status.done = false → c.status.done = false) (hnote : c.noteidx = b.noteidx)
    (hx : c.x = b.x) : c.Inv where
  busy_iff_pending := by rw [hbusy, hpending, h.busy_iff_pending]
  pending_is_cmd := by rw [hpending, hcmd]; exact h.pending_is_cmd
  busy_not_done hb := hdone (h.busy_not_done (hbusy ▸ hb))
  noteidx_legal := by rw [hnote]; exact h.noteidx_legal
  x_normalized := by rw [hx]; exact h.x_normalized
  cmd_legal := by rw [hcmd]; exact h.cmd_legal

theorem inv_raiseError {b : Block} (h : b.Inv) (e : ErrorCause) : (b.raiseError e).Inv :=
  inv_of_eq h (by simp) (by simp) (by simp) (by simp) (by simp) (by simp)

/-- Acceptance of a legal word makes it the pending command. -/
theorem inv_accept {b : Block} (h : b.Inv) {w : Word} {i : Instr} (hw : decode w = .ok i) : (b.accept w i).Inv where
  busy_iff_pending := rfl
  pending_is_cmd j hj := by
    obtain rfl : i = j := Option.some.inj hj
    exact eq_encode_of_decode hw
  busy_not_done _ := rfl
  noteidx_legal := h.noteidx_legal
  x_normalized := h.x_normalized
  cmd_legal := by
    rw [accept_cmd, eq_encode_of_decode hw]
    exact encode_wellFormed i

theorem inv_issue {b : Block} (h : b.Inv) (w : Word) : (b.issue w).Inv := by
  rcases issue_cases b w with ⟨i, hw, heq⟩ | ⟨-, heq⟩
  · rw [heq]
    exact inv_accept h hw
  · rw [heq]
    exact inv_raiseError h .illegal

/-- A store reaches none of the fields the invariant speaks of, but for DONE, which it can only clear. -/
theorem inv_store {b : Block} (h : b.Inv) (l : Loc) (d : Word) : (b.store l d).Inv := by
  cases l with
  | status => exact inv_of_eq h rfl rfl rfl (fun hd => by simp [hd]) rfl rfl
  | _ => exact inv_of_eq h rfl rfl rfl id rfl rfl

theorem inv_busWrite {b : Block} (h : b.Inv) (a : Offset) (width : BitVec 3) (d : Word) : (b.busWrite a width d).Inv := by
  rcases busWrite_cases b a width d with ⟨-, heq⟩ | ⟨_, -, -, -, heq⟩ | ⟨-, -, heq⟩ | ⟨l, -, -, -, heq⟩ <;> rw [heq]
  · exact inv_raiseError h .access
  · exact inv_raiseError h .busy
  · exact inv_issue h d
  · exact inv_store h l d

theorem inv_transact {s : State} (h : s.Inv) (tr : Transaction) : (s.transact tr).Inv := by
  cases tr with
  | read a width =>
    change (s.busRead a width).block.Inv
    rw [busRead_block]
    split
    · exact inv_raiseError h .access
    · exact h
  | write a width d => exact inv_busWrite h a width d

/-! ## Commands keep the invariant -/

/-- What a body must have kept for its completion to give the invariant: a completed block is idle and nothing is pending. -/
theorem inv_complete {b : Block} (hnote : b.noteidx.toNat ≤ 12 ∨ b.noteidx.toNat = 15) (hx : NormalizedFrame b.x)
    (hcmd : CommandWord.WellFormed b.cmd) : b.complete.Inv where
  busy_iff_pending := rfl
  pending_is_cmd _ hi := nomatch hi
  busy_not_done hb := nomatch hb
  noteidx_legal := hnote
  x_normalized := hx
  cmd_legal := hcmd

section

variable {b : Block} (h : b.complete.Inv)
include h

theorem inv_complete_convertBody : (convertBody b).complete.Inv :=
  inv_complete h.noteidx_legal (convertBody_x_normalized b) h.cmd_legal

theorem inv_complete_detectBody : (detectBody b).complete.Inv :=
  inv_complete h.noteidx_legal h.x_normalized h.cmd_legal

/-- QUANTIZE writes an index of the scale, below 13. -/
theorem inv_complete_quantizeBody : (quantizeBody b).complete.Inv := by
  cases hok : quantizeOperandOk b.freq
  · rw [quantizeBody_bad hok]
    exact inv_complete h.noteidx_legal h.x_normalized h.cmd_legal
  · rw [quantizeBody_ok hok]
    refine inv_complete (.inl ?_) h.x_normalized h.cmd_legal
    have hk : (nearestNote b.freq).val < 13 := (nearestNote b.freq).isLt
    simp only [BitVec.toNat_ofNat]
    omega

theorem inv_complete_ratioBody : (ratioBody b).complete.Inv :=
  inv_complete (by simpa using h.noteidx_legal) (by simpa using h.x_normalized) (by simpa using h.cmd_legal)

theorem inv_complete_shiftBody : (shiftBody b).complete.Inv :=
  inv_complete (by simpa using h.noteidx_legal) (by simpa using h.x_normalized) (by simpa using h.cmd_legal)

theorem inv_complete_clampBody : (clampBody b).complete.Inv :=
  inv_complete h.noteidx_legal h.x_normalized h.cmd_legal

theorem inv_complete_passBody : (passBody b).complete.Inv :=
  inv_complete h.noteidx_legal h.x_normalized h.cmd_legal

theorem inv_complete_noNote : b.noNote.complete.Inv := inv_complete (.inr rfl) h.x_normalized h.cmd_legal

theorem inv_complete_correctBody : (correctBody b).complete.Inv := by
  unfold correctBody
  split
  · exact inv_complete_shiftBody (inv_complete_ratioBody (inv_complete_quantizeBody h))
  · exact inv_complete_noNote h

theorem inv_complete_bodyOf (i : Instr) : (bodyOf i b).complete.Inv := by
  cases i with
  | nop => exact h
  | convert => exact inv_complete_convertBody h
  | detect => exact inv_complete_detectBody h
  | quantize => exact inv_complete_quantizeBody h
  | ratio => exact inv_complete_ratioBody h
  | shift => exact inv_complete_shiftBody h
  | clamp => exact inv_complete_clampBody h
  | pass => exact inv_complete_passBody h
  | process =>
    exact inv_complete_clampBody (inv_complete_correctBody (inv_complete_detectBody (inv_complete_convertBody h)))

end

/-! ## Steps -/

/-- A step always answers. -/
theorem step_answers (s : State) : ∃ t, step s = .next t := by
  unfold step
  split
  · exact ⟨_, engineTurn_eq _⟩
  · exact ⟨_, engineTurn_eq _⟩
  · exact ⟨_, rfl⟩
  · exact ⟨_, rfl⟩

theorem inv_step {s t : State} (h : s.Inv) (hst : step s = .next t) : t.Inv := by
  rcases step_cases hst with ⟨rest, -, -, rfl⟩ | ⟨i, rest, -, -, rfl⟩ | ⟨tr, rest, -, rfl⟩ | ⟨rest, -, rfl⟩
  · exact h
  · exact inv_complete_bodyOf (inv_complete h.noteidx_legal h.x_normalized h.cmd_legal) i
  · exact inv_transact (s := { s with agenda := rest }) h tr
  · exact inv_reset

/-- Settles O9, by the cases of a step: a transaction keeps the invariant, a command's body keeps what its completion
needs for it, a reset establishes it. -/
theorem everyStepKeepsTheInvariants : Obligations.EveryStepKeepsTheInvariants := by
  intro s hs
  obtain ⟨t, ht⟩ := step_answers s
  exact ⟨t, ht, (reachable_iff_inv t.block).mpr (inv_step ((reachable_iff_inv s.block).mp hs) ht)⟩

end Sys2Proof.Machine
end

section
/-! PROOFS. Decode and encode agree on every word (30_encoding.md R100 to R102). -/

namespace Sys2Proof.Machine

/-- The command word of a command decodes to it. -/
@[simp] theorem decode_encode (i : Instr) : decode (encode i) = .ok i :=
  decode_ok (encode_wellFormed i).1 ((decodeOpcode_iff _ i).mpr (opcodeField_encode i))

/-- Settles O2: a decoded word has the two fields of its command's word, and they are the whole word. -/
theorem decodeIffEncode : Obligations.DecodeIffEncode := fun _ i =>
  ⟨eq_encode_of_decode, fun h => h ▸ decode_encode i⟩

/-- Settles O1: the words of the map are the commands' encodings. -/
theorem opcodeMapWordsDecode : Obligations.OpcodeMapWordsDecode :=
  ⟨decode_encode .nop, decode_encode .convert, decode_encode .detect, decode_encode .quantize, decode_encode .ratio,
    decode_encode .shift, decode_encode .clamp, decode_encode .pass, decode_encode .process⟩

end Sys2Proof.Machine
end

section
/-! PROOFS. WAIT and RUN, wherever the engine's turn falls (30_encoding.md R107, 40_command_lifecycle.md R122). -/

namespace Sys2Proof.Machine

/-! ## The BUSY bit of a STATUS word -/

@[simp] theorem toWord_bit_zero (st : Status) : st.toWord[0] = st.busy := by
  rw [Status.toWord, ← BitVec.getLsbD_eq_getElem, BitVec.getLsbD_ofNat, Nat.testBit_zero]
  cases st.busy <;> simp <;> omega

/-- A busy read draws bits 2 to 4 only (20_memory.md R86). -/
@[simp] theorem toBusyWord_bit_zero (st : Status) (draw : Word) : (st.toBusyWord draw)[0] = st.busy :=
  toWord_bit_zero _

/-! ## A STATUS read and a CMD write as transactions -/

theorem busRead_status (s : State) : s.busRead Loc.status.offset 4#3 =
    if s.block.status.busy then s.draw.2.returning (s.block.status.toBusyWord s.draw.1)
    else s.returning s.block.status.toWord := rfl

theorem issue_encode (b : Block) (i : Instr) : b.issue (encode i) = b.accept (encode i) i := by
  simp [Block.issue]

theorem busWrite_cmd_idle {b : Block} (h : b.status.busy = false) (w : Word) :
    b.busWrite Loc.cmd.offset 4#3 w = b.issue w := by
  change (if b.status.busy && true then b.raiseError .busy else b.issue w) = b.issue w
  simp [h]

end Sys2Proof.Machine

namespace Sys2Proof.Driver

open Sys2Proof.Machine

/-! ## WAIT -/

/-- The state a WAIT's next read finds: the engine has its turn first where the turns say so. -/
def beforeRead (turns : List Bool) (s : State) : State := if turns.headD true then afterTurn s else s

theorem beforeRead_nil (s : State) : beforeRead [] s = afterTurn s := rfl

theorem beforeRead_cons (engineFirst : Bool) (rest : List Bool) (s : State) :
    beforeRead (engineFirst :: rest) s = if engineFirst then afterTurn s else s := rfl

theorem beforeRead_of_turn {turns : List Bool} (h : turns.headD true = true) (s : State) :
    beforeRead turns s = afterTurn s := if_pos h

theorem beforeRead_of_no_turn {turns : List Bool} (h : ¬ turns.headD true = true) (s : State) : beforeRead turns s = s :=
  if_neg h

/-- With nothing pending the engine's turn changes nothing. -/
theorem beforeRead_idle (turns : List Bool) {s : State} (h : s.block.pending = none) : beforeRead turns s = s := by
  by_cases hturn : turns.headD true = true
  · rw [beforeRead_of_turn hturn, afterTurn_none h]
  · exact beforeRead_of_no_turn hturn s

/-- A read that finds BUSY = 0 ends the WAIT. -/
theorem wait_of_idle {turns : List Bool} {s : State} (h : (beforeRead turns s).block.status.busy = false) :
    wait turns s = some { state := (beforeRead turns s).returning (beforeRead turns s).block.status.toWord
                          turns := turns.tail } := by
  have hread : (beforeRead turns s).transact (rd Loc.status.offset) = _ := (busRead_status _).trans (if_neg (by simp [h]))
  cases turns with
  | nil => simp [wait_nil, ← beforeRead_nil, hread, h]
  | cons engineFirst rest => simp [wait_cons, ← beforeRead_cons engineFirst rest, hread, h]

/-- The read after the engine's turn ends the WAIT, with the STATUS of the completed command. -/
theorem wait_of_turn {turns : List Bool} {s : State} {i : Instr} (hturn : turns.headD true = true)
    (hpending : s.block.pending = some i) :
    wait turns s = some { state := (s.finish (bodyOf i)).returning (bodyOf i s.block).complete.status.toWord
                          turns := turns.tail } := by
  have hbefore : beforeRead turns s = s.finish (bodyOf i) := by
    rw [beforeRead_of_turn hturn, afterTurn_some hpending]
  rw [wait_of_idle (by simp [hbefore]), hbefore, finish_block]

/-- A read that finds BUSY = 1 is followed by another. -/
theorem wait_of_busy (rest : List Bool) {s : State} (h : s.block.status.busy = true) :
    wait (false :: rest) s = wait rest (s.draw.2.returning (s.block.status.toBusyWord s.draw.1)) := by
  have hread : s.transact (rd Loc.status.offset) = _ := (busRead_status s).trans (if_pos h)
  simp [wait_cons, hread, h]

/-- The WAIT of a pending command: it polls BUSY = 1 until the engine's turn, and the read after that ends it. -/
theorem wait_of_pending (i : Instr) (turns : List Bool) (s : State) (hbusy : s.block.status.busy = true)
    (hpending : s.block.pending = some i) :
    ∃ t polls, wait turns s = some t ∧ t.state.block = (bodyOf i s.block).complete ∧ t.state.agenda = s.agenda ∧
      t.state.returned = t.state.block.status.toWord :: (polls ++ s.returned) ∧
      polls.length = (turns.takeWhile fun engineFirst => !engineFirst).length ∧ ∀ w ∈ polls, w.getLsbD 0 = true := by
  induction turns generalizing s with
  | nil => exact ⟨_, [], wait_of_turn rfl hpending, by simp⟩
  | cons engineFirst rest ih =>
    cases engineFirst with
    | true => exact ⟨_, [], wait_of_turn rfl hpending, by simp⟩
    | false =>
      obtain ⟨t, polls, hwait, hblock, hagenda, hreturned, hlength, hpolls⟩ :=
        ih (s.draw.2.returning (s.block.status.toBusyWord s.draw.1)) hbusy hpending
      refine ⟨t, polls ++ [s.block.status.toBusyWord s.draw.1], (wait_of_busy rest hbusy).trans hwait, hblock, hagenda,
        by simpa [State.draw] using hreturned, by simpa using hlength, fun w hw => ?_⟩
      rcases List.mem_append.mp hw with hw | hw
      · exact hpolls w hw
      · simp [List.mem_singleton.mp hw, hbusy]

/-! ## Statements -/

theorem runProgram_singleton (st : Stmt) (r : Run) : runProgram [st] r = runStmt st r := by
  rw [runProgram]
  cases runStmt st r <;> rfl

/-- A `CMD` to an idle block is accepted, the engine's turn before it changing nothing. -/
theorem perform_issue_idle (i : Instr) (turns : List Bool) {s : State} (hbusy : s.block.status.busy = false)
    (hpending : s.block.pending = none) :
    perform (issue i) { state := s, turns := turns } =
      some { state := { s with block := s.block.accept (encode i) i }, turns := turns.tail } := by
  have hwrite : s.transact (issue i) = { s with block := s.block.accept (encode i) i } := by
    simp only [issue, wr, State.transact, State.busWrite, busWrite_cmd_idle hbusy, issue_encode]
  simp [perform_eq, afterTurn_none hpending, hwrite]

/-- A `RUN` on an idle block is the WAIT of the accepted command. -/
theorem runStmt_run_idle (i : Instr) (turns : List Bool) {s : State} (hbusy : s.block.status.busy = false)
    (hpending : s.block.pending = none) :
    runStmt (.run i) { state := s, turns := turns } =
      wait turns.tail { s with block := s.block.accept (encode i) i } := by
  rw [runStmt, perform_issue_idle i turns hbusy hpending]

/-- Settles O57: an idle WAIT's first read ends it; a RUN is acceptance and the WAIT of a pending command, by induction on
the engine's turns. -/
theorem runStatementCompletesItsCommand : Obligations.RunStatementCompletesItsCommand := by
  intro i turns s hbusy hpending
  have hidle := beforeRead_idle turns hpending
  obtain ⟨t, polls, hwait, hblock, hagenda, hreturned, hlength, hpolls⟩ :=
    wait_of_pending i turns.tail { s with block := s.block.accept (encode i) i } rfl rfl
  constructor
  · rw [runProgram_singleton]
    exact (wait_of_idle (by rw [hidle]; exact hbusy)).trans (by rw [hidle]; rfl)
  · refine ⟨t, _, polls, ?_, exec_eq i _, hblock, hagenda, rfl, by rw [hreturned, hblock]; rfl, hlength, hpolls⟩
    rw [runProgram_singleton, runStmt_run_idle i turns hbusy hpending, hwait]

end Sys2Proof.Driver
end

section
/-! PROOFS. The command lifecycle: the three outcomes of a CMD write, the engine's turn, progress (40_command_lifecycle.md R120 to
R122, R125). -/

namespace Sys2Proof.Machine

open Sys2Proof.Spec

/-! ## Legal words -/

theorem exists_opcode_eq {n : ℕ} (h : n ≤ 0x08) : ∃ i : Instr, i.opcode = n := by
  interval_cases n
  exacts [⟨.nop, rfl⟩, ⟨.convert, rfl⟩, ⟨.detect, rfl⟩, ⟨.quantize, rfl⟩, ⟨.ratio, rfl⟩, ⟨.shift, rfl⟩, ⟨.clamp, rfl⟩,
    ⟨.pass, rfl⟩, ⟨.process, rfl⟩]

theorem opcode_le (i : Instr) : i.opcode ≤ 0x08 := by cases i <;> decide

/-- The illegal words of 30_encoding.md R102 are those that do not decode. -/
theorem not_illegalWord_iff (w : Word) : ¬ IllegalWord w ↔ ∃ i, decode w = .ok i := by
  rw [IllegalWord, not_or, not_ne_iff, not_lt]
  constructor
  · rintro ⟨hr, ho⟩
    obtain ⟨i, hi⟩ := exists_opcode_eq ho
    exact ⟨i, decode_ok hr ((decodeOpcode_iff _ i).mpr hi.symm)⟩
  · rintro ⟨i, hi⟩
    obtain ⟨hr, ho⟩ := decode_ok_fields hi
    exact ⟨hr, ho.trans_le (opcode_le i)⟩

theorem issue_of_decode (b : Block) {w : Word} {i : Instr} (h : decode w = .ok i) : b.issue w = b.accept w i := by
  rw [eq_encode_of_decode h, issue_encode]

theorem issue_of_illegal (b : Block) {w : Word} (h : IllegalWord w) : b.issue w = b.raiseError .illegal := by
  rcases issue_cases b w with ⟨i, hi, -⟩ | ⟨-, hissue⟩
  · exact absurd h ((not_illegalWord_iff w).mpr ⟨i, hi⟩)
  · exact hissue

theorem busWrite_cmd_busy {b : Block} (h : b.status.busy = true) (w : Word) :
    b.busWrite Loc.cmd.offset 4#3 w = b.raiseError .busy := by
  change (if b.status.busy && true then b.raiseError .busy else b.issue w) = b.raiseError .busy
  simp [h]

/-! ## Steps by the next event -/

section

variable {s : State} {rest : List Event}

theorem step_of_bus {tr : Transaction} (h : s.agenda = .bus tr :: rest) :
    step s = .next ({ s with agenda := rest }.transact tr) := by
  simp [step, h]

theorem step_of_engine (h : s.agenda = .engine :: rest) : step s = engineTurn { s with agenda := rest } := by
  simp [step, h]

theorem step_of_no_event (h : s.agenda = []) : step s = engineTurn s := by
  simp [step, h]

theorem engineTurn_of_pending {i : Instr} (h : s.block.pending = some i) : engineTurn s = exec i s := by
  simp [engineTurn, h]

theorem step_of_cmd_write {w : Word} (h : s.agenda = .bus (.write 0x008#16 4#3 w) :: rest) :
    step s = .next { s with agenda := rest, block := s.block.busWrite Loc.cmd.offset 4#3 w } :=
  step_of_bus h

/-- A legal word written to CMD while idle is accepted. -/
theorem step_accepts {w : Word} {i : Instr} (h : s.agenda = .bus (.write 0x008#16 4#3 w) :: rest)
    (hidle : s.block.status.busy = false) (hw : decode w = .ok i) :
    step s = .next { s with agenda := rest, block := s.block.accept w i } := by
  rw [step_of_cmd_write h, busWrite_cmd_idle hidle, issue_of_decode _ hw]

end

/-- Settles O14: the guard, the decoder's refusal and the acceptance are the three cases. -/
theorem commandWriteIsAcceptedOrRefused : Obligations.CommandWriteIsAcceptedOrRefused := by
  intro s w rest h
  refine ⟨fun hbusy => ?_, fun hidle hill => ?_, fun hidle hlegal => ?_⟩
  · rw [step_of_cmd_write h, busWrite_cmd_busy hbusy]
    rfl
  · rw [step_of_cmd_write h, busWrite_cmd_idle hidle, issue_of_illegal _ hill]
    rfl
  · obtain ⟨i, hi⟩ := (not_illegalWord_iff w).mp hlegal
    exact ⟨i, (decode_ok_fields hi).2.symm, step_accepts h hidle hi⟩

/-- Settles O11: either form of the engine's turn is `exec` of the pending command, which ends in the completion. -/
theorem engineStepRunsThePendingCommand : Obligations.EngineStepRunsThePendingCommand := fun s i hi =>
  ⟨fun h => (step_of_no_event h).trans (engineTurn_of_pending hi),
    fun rest h => (step_of_engine h).trans (engineTurn_of_pending (s := { s with agenda := rest }) hi),
    _, exec_eq i s, rfl, rfl, rfl⟩

/-- Settles O12: the write is the acceptance, which leaves the decoded command pending for the engine's turn. -/
theorem acceptedWordRunsAsItsCommand : Obligations.AcceptedWordRunsAsItsCommand := fun _ _ _ _ hw hidle h =>
  ⟨_, step_accepts h hidle hw, rfl, rfl, (step_of_engine rfl).trans (engineTurn_of_pending rfl)⟩

theorem decodeTableWord_encode (i : Instr) : decodeTableWord 32 (encode i).toNat = some i := by cases i <;> rfl

theorem withFetchWord_encode (s : State) (i : Instr) :
    s.withFetchWord 32 (encode i).toNat =
      { s with block := s.block.accept (encode i) i, agenda := .engine :: s.agenda } := by
  simp [State.withFetchWord, decodeTableWord_encode]

/-- Settles O13: the word is its command's, placed as accepted with the engine's turn next. -/
theorem fetchWordRunsItsCommand : Obligations.FetchWordRunsItsCommand := by
  intro s w i hw
  obtain rfl := eq_encode_of_decode hw
  rw [withFetchWord_encode, step_of_engine rfl]
  exact engineTurn_of_pending rfl

/-- Settles O20: NOP's body is the block itself, and DONE is a source of the interrupt. -/
theorem nopOnlyCompletes : Obligations.NopOnlyCompletes := fun s =>
  ⟨_, exec_eq .nop s, rfl, Bool.and_true _⟩

/-! ## Progress -/

/-- A step takes the next event, whatever it is. -/
theorem step_agenda {s t : State} (h : step s = .next t) : t.agenda = s.agenda.tail := by
  have htail {rest : List Event} (hs : s.agenda = .engine :: rest ∨ (s.agenda = [] ∧ rest = [])) : rest = s.agenda.tail := by
    rcases hs with hs | ⟨hs, rfl⟩ <;> rw [hs] <;> rfl
  rcases step_cases h with ⟨rest, hs, -, rfl⟩ | ⟨i, rest, hs, -, rfl⟩ | ⟨tr, rest, hs, rfl⟩ | ⟨rest, hs, rfl⟩
  · exact htail hs
  · exact htail hs
  · rw [transact_agenda, hs, List.tail_cons]
  · rw [resetBlock_agenda, hs, List.tail_cons]

/-- With no event left the step is the engine's turn, after which nothing is pending. -/
theorem step_of_no_event_completes {s t : State} (hs : s.agenda = []) (h : step s = .next t) : t.block.pending = none := by
  rw [step_of_no_event hs, engineTurn_eq] at h
  obtain rfl := Host.Outcome.next.inj h
  cases hp : s.block.pending with
  | none => exact hp
  | some i => rfl

theorem run_succ {M : Host.Core} {s t : M.State} (h : M.step s = .next t) (k : ℕ) : M.run (k + 1) s = M.run k t := by
  rw [Host.Core.run, h]

/-- Settles O15, by induction on the coming events: each step takes one, and with none left the engine has its turn. -/
theorem pendingCommandEventuallyCompletes : Obligations.PendingCommandEventuallyCompletes := by
  intro s
  obtain ⟨t, ht⟩ := step_answers s
  induction hn : s.agenda.length generalizing s t with
  | zero =>
    exact ⟨1, t, le_rfl, run_succ (M := Sys2Proof.core) ht 0, step_of_no_event_completes (List.length_eq_zero_iff.mp hn) ht⟩
  | succ n ih =>
    obtain ⟨t', ht'⟩ := step_answers t
    obtain ⟨k, u, hk, hrun, hu⟩ := ih t t' ht' (by rw [step_agenda ht, List.length_tail, hn, Nat.add_sub_cancel])
    exact ⟨k + 1, u, by omega, (run_succ (M := Sys2Proof.core) ht k).trans hrun, hu⟩

end Sys2Proof.Machine
end

section
/-! PROOFS. A frame in range passes every operand check of PROCESS (45_frame_processor.md R224), from any state. -/

namespace Sys2Proof.Machine

open Sys2Proof.Spec

/-! ## Rounding keeps to finite bounds -/

theorem finiteDatum_of_isRnd32 {v : ℚ} {w : Word} (h : IsRnd32 v w) (hv : |v| < (2 : ℚ) ^ 128 - 2 ^ 103) : FiniteDatum w := by
  obtain ⟨-, -, hnearest⟩ := h
  exact (hnearest hv).1

/-- A finite datum that a value does not fall below, its rounding does not fall below either. -/
theorem le_val32_of_isRnd32 {v : ℚ} {w d : Word} (h : IsRnd32 v w) (hv : |v| < (2 : ℚ) ^ 128 - 2 ^ 103) (hd : FiniteDatum d)
    (hdv : val32 d ≤ v) : val32 d ≤ val32 w := by
  obtain ⟨-, -, hnearest⟩ := h
  obtain ⟨-, hleast, -⟩ := hnearest hv
  have hnear : |val32 w - v| ≤ |val32 d - v| := hleast d hd
  rw [abs_of_nonpos (sub_nonpos.mpr hdv)] at hnear
  linarith [neg_le_abs (val32 w - v)]

/-! ## Constants -/

theorem val32_of_exactUnits {w : Word} {n : ℤ} (h : exactUnits w = n * 2 ^ 149) : val32 w = n := by
  rw [val32_eq_units, h, zpow_neg]
  push_cast
  field_simp

theorem finiteDatum_of_isFinite {w : Word} (h : isFinite w = true) : FiniteDatum w := (isFinite_iff_finiteDatum w).mp h

theorem val32_sampleRateF : val32 Config.sampleRateF = 44100 := val32_of_exactUnits (n := 44100) rfl

theorem val32_freqMin : val32 Config.freqMin = 50 := val32_of_exactUnits (n := 50) rfl

theorem val32_freqMax : val32 Config.freqMax = 2000 := val32_of_exactUnits (n := 2000) rfl

theorem val32_zeroF : val32 zeroF = 0 := (val32_eq_zero_iff zeroF).mpr rfl

theorem finiteDatum_scale (k : Fin Config.scaleCount) : FiniteDatum (Config.scale k) := by
  have h : ∀ k, isFinite (Config.scale k) = true := by decide
  exact finiteDatum_of_isFinite (h k)

/-- The scale lies between 261 Hz and 524 Hz (00_scope.md R7). -/
theorem scale_bounds (k : Fin Config.scaleCount) : 261 ≤ val32 (Config.scale k) ∧ val32 (Config.scale k) ≤ 524 := by
  have h : ∀ k, (261 * 2 ^ 149 : ℤ) ≤ exactUnits (Config.scale k) ∧ exactUnits (Config.scale k) ≤ 524 * 2 ^ 149 := by decide
  rw [val32_eq_units, zpow_neg, ← div_eq_mul_inv, le_div_iff₀ (by positivity), div_le_iff₀ (by positivity)]
  exact_mod_cast h k

/-! ## The estimate of DETECT -/

theorem visitAll_lag (p : Peak) (xs : List Word) (e : Word) (lags : List ℕ) :
    p.visitAll xs e lags = p ∨ (p.visitAll xs e lags).lag ∈ lags := by
  induction lags generalizing p with
  | nil => exact .inl rfl
  | cons lag rest ih =>
    rw [visitAll_cons]
    split
    · rcases ih { best := corrOf xs e lag, lag := lag } with heq | hmem
      · exact .inr (by rw [heq]; exact List.mem_cons_self)
      · exact .inr (List.mem_cons_of_mem lag hmem)
    · exact (ih p).imp id (List.mem_cons_of_mem lag)

/-- The peak is the initial one, or that of a lag of the search. -/
theorem findPeak_lag (xs : List Word) (e : Word) :
    findPeak xs e = { best := zeroF, lag := 0 } ∨ (1 ≤ (findPeak xs e).lag ∧ (findPeak xs e).lag ≤ 511) := by
  rw [findPeak_eq]
  split
  · exact .inl rfl
  · refine (visitAll_lag _ xs e _).imp id fun hmem => ?_
    obtain ⟨h0, h1⟩ := List.mem_range'_1.mp hmem
    exact ⟨h0, Nat.le_of_lt_succ h1⟩

/-- A voiced frame has a lag of the search: the initial maximum is not voiced. -/
theorem findPeak_lag_of_voiced {xs : List Word} {e : Word} (h : voicedFlag (findPeak xs e).best = true) :
    1 ≤ (findPeak xs e).lag ∧ (findPeak xs e).lag ≤ 511 := by
  rcases findPeak_lag xs e with heq | hlag
  · rw [heq] at h
    exact nomatch h
  · exact hlag

theorem finiteDatum_lagFrequency {lag : ℕ} (h0 : 1 ≤ lag) (h1 : lag ≤ 511) : FiniteDatum (lagFrequency lag) := by
  obtain ⟨hfin, hval⟩ := floatOfSmallIntegerIsExact lag (by rw [Nat.abs_cast]; omega)
  rw [Int.cast_natCast] at hval
  have hlag : (1 : ℚ) ≤ lag := by exact_mod_cast h0
  have hnz : ¬ ZeroDatum (floatOf lag) := by
    rw [← magUnits_ne_zero_iff, Ne, ← val32_eq_zero_iff, hval]
    linarith
  refine finiteDatum_of_isRnd32 (isRnd32_fdiv (finiteDatum_of_isFinite rfl) hfin hnz) ?_
  rw [val32_sampleRateF, hval, abs_of_nonneg (by positivity)]
  calc (44100 : ℚ) / lag ≤ 44100 := div_le_self (by norm_num) hlag
    _ < 2 ^ 128 - 2 ^ 103 := by norm_num

theorem finiteDatum_detectBody_freq (b : Block) : FiniteDatum (detectBody b).freq := by
  rw [detectBody, writeEstimate_freq]
  split
  · rename_i hvoiced
    obtain ⟨h0, h1⟩ := findPeak_lag_of_voiced hvoiced
    exact finiteDatum_lagFrequency h0 h1
  · exact finiteDatum_of_isFinite rfl

/-- A frequency in range, as a real number (41_autocorrelation_engine.md R146). -/
def InFrequencyRange (f : Word) : Prop := FiniteDatum f ∧ 50 < val32 f ∧ val32 f < 2000

/-- What the flag says of a finite frequency. -/
theorem inFrequencyRange_of_flag {f : Word} (hfin : FiniteDatum f) (h : inRangeFlag f = true) : InFrequencyRange f := by
  obtain ⟨hlow, hhigh⟩ := Bool.and_eq_true_iff.mp h
  rw [flt_iff_val32 (finiteDatum_of_isFinite rfl) hfin, val32_freqMin] at hlow
  rw [flt_iff_val32 hfin (finiteDatum_of_isFinite rfl), val32_freqMax] at hhigh
  exact ⟨hfin, hlow, hhigh⟩

theorem detectBody_inFrequencyRange {b : Block} (h : (detectBody b).status.inRange = true) :
    InFrequencyRange (detectBody b).freq :=
  inFrequencyRange_of_flag (finiteDatum_detectBody_freq b) h

/-! ## The operand checks -/

section

variable {f : Word} (hf : InFrequencyRange f)
include hf

theorem quantizeOperandOk_of_inFrequencyRange : quantizeOperandOk f = true := (isFinite_iff_finiteDatum f).mpr hf.1

/-- The ratio of a note, at least 261 Hz and at most 524 Hz, to a frequency in range is finite and at least 1/8. -/
theorem noteRatio_bounds (k : Fin Config.scaleCount) :
    FiniteDatum (fdiv (Config.scale k) f) ∧ 1 / 8 ≤ val32 (fdiv (Config.scale k) f) := by
  obtain ⟨hfin, hlow, hhigh⟩ := hf
  obtain ⟨hk0, hk1⟩ := scale_bounds k
  have hpos : 0 < val32 f := by linarith
  have hnz : ¬ ZeroDatum f := by
    rw [← magUnits_ne_zero_iff, Ne, ← val32_eq_zero_iff]
    exact hpos.ne'
  have hrnd := isRnd32_fdiv (finiteDatum_scale k) hfin hnz
  have hlower : 1 / 8 ≤ val32 (Config.scale k) / val32 f := by
    rw [le_div_iff₀ hpos]
    linarith
  have hupper : val32 (Config.scale k) / val32 f ≤ 11 := by
    rw [div_le_iff₀ hpos]
    linarith
  have hbound : |val32 (Config.scale k) / val32 f| < (2 : ℚ) ^ 128 - 2 ^ 103 := by
    rw [abs_of_nonneg (by linarith)]
    linarith [show (11 : ℚ) < 2 ^ 128 - 2 ^ 103 by norm_num]
  have heighth : val32 0x3E000000#32 = 1 / 8 := by
    rw [val32_eq_units, show exactUnits 0x3E000000#32 = 2 ^ 146 from rfl]
    norm_num
  refine ⟨finiteDatum_of_isRnd32 hrnd hbound, ?_⟩
  rw [← heighth] at hlower ⊢
  exact le_val32_of_isRnd32 hrnd hbound (finiteDatum_of_isFinite rfl) hlower

theorem ratioOperandOk_of_inFrequencyRange (k : Fin Config.scaleCount) : ratioOperandOk (Config.scale k) f = true := by
  have hquot := (noteRatio_bounds hf k).1
  obtain ⟨hfin, hlow, -⟩ := hf
  have hnz : isZero f = false := by
    rw [← Bool.not_eq_true, isZero_iff_val32]
    linarith
  simp [ratioOperandOk, isFinite_iff_finiteDatum, finiteDatum_scale k, hfin, hnz, hquot]

theorem shiftOperandOk_of_inFrequencyRange (k : Fin Config.scaleCount) :
    shiftOperandOk (fdiv (Config.scale k) f) = true := by
  obtain ⟨hfin, hbound⟩ := noteRatio_bounds hf k
  have hpos : flt zeroF (fdiv (Config.scale k) f) = true := by
    rw [flt_iff_val32 (finiteDatum_of_isFinite rfl) hfin, val32_zeroF]
    linarith
  simp [shiftOperandOk, isFinite_iff_finiteDatum, hfin, hpos]

end

/-- With a frequency in range wherever the flag is set, QUANTIZE, RATIO and SHIFT all find their operands usable. -/
theorem correctBody_status_errOperand {b : Block} (h : b.status.inRange = true → InFrequencyRange b.freq) :
    (correctBody b).status.errOperand = b.status.errOperand := by
  unfold correctBody
  split
  · have hf := h ‹_›
    simp [quantizeOperandOk_of_inFrequencyRange hf, ratioOperandOk_of_inFrequencyRange hf,
      shiftOperandOk_of_inFrequencyRange hf]
  · exact noNote_status_errOperand b

/-- PROCESS raises no operand error, whatever the state (45_frame_processor.md R224). -/
@[simp] theorem processBody_status_errOperand (b : Block) : (processBody b).status.errOperand = b.status.errOperand := by
  rw [processBody, clampBody_status_errOperand, correctBody_status_errOperand detectBody_inFrequencyRange,
    detectBody_status_errOperand, convertBody_status_errOperand]

end Sys2Proof.Machine
end

section
/-! PROOFS. The frame every command shares (40_command_lifecycle.md R124): what no body writes. -/

namespace Sys2Proof.Machine

/-- What no command writes: CTRL, CMD, IN and the bus's error bits; and ERR_OPERAND, which it may only set. -/
def HostFieldsKept (b c : Block) : Prop :=
  c.ctrl = b.ctrl ∧ c.cmd = b.cmd ∧ c.inp = b.inp ∧ c.status.errIllegal = b.status.errIllegal ∧
    c.status.errBusy = b.status.errBusy ∧ c.status.errAccess = b.status.errAccess ∧
    (b.status.errOperand = true → c.status.errOperand = true)

theorem HostFieldsKept.trans {b c d : Block} (h : HostFieldsKept b c) (g : HostFieldsKept c d) : HostFieldsKept b d := by
  obtain ⟨hctrl, hcmd, hinp, hillegal, hbusy, haccess, hoperand⟩ := h
  obtain ⟨gctrl, gcmd, ginp, gillegal, gbusy, gaccess, goperand⟩ := g
  exact ⟨gctrl.trans hctrl, gcmd.trans hcmd, ginp.trans hinp, gillegal.trans hillegal, gbusy.trans hbusy,
    gaccess.trans haccess, goperand ∘ hoperand⟩

section

variable (b : Block)

theorem convertBody_keeps_hostFields : HostFieldsKept b (convertBody b) := ⟨rfl, rfl, rfl, rfl, rfl, rfl, id⟩

theorem detectBody_keeps_hostFields : HostFieldsKept b (detectBody b) := ⟨rfl, rfl, rfl, rfl, rfl, rfl, id⟩

theorem clampBody_keeps_hostFields : HostFieldsKept b (clampBody b) := ⟨rfl, rfl, rfl, rfl, rfl, rfl, id⟩

theorem passBody_keeps_hostFields : HostFieldsKept b (passBody b) := ⟨rfl, rfl, rfl, rfl, rfl, rfl, id⟩

theorem noNote_keeps_hostFields : HostFieldsKept b b.noNote := ⟨rfl, rfl, rfl, rfl, rfl, rfl, id⟩

theorem quantizeBody_keeps_hostFields : HostFieldsKept b (quantizeBody b) := by simp +contextual [HostFieldsKept]

theorem ratioBody_keeps_hostFields : HostFieldsKept b (ratioBody b) := by simp +contextual [HostFieldsKept]

theorem shiftBody_keeps_hostFields : HostFieldsKept b (shiftBody b) := by simp +contextual [HostFieldsKept]

theorem correctBody_keeps_hostFields : HostFieldsKept b (correctBody b) := by
  unfold correctBody
  split
  · exact ((quantizeBody_keeps_hostFields b).trans (ratioBody_keeps_hostFields _)).trans (shiftBody_keeps_hostFields _)
  · exact noNote_keeps_hostFields b

theorem processBody_keeps_hostFields : HostFieldsKept b (processBody b) :=
  (((convertBody_keeps_hostFields b).trans (detectBody_keeps_hostFields _)).trans (correctBody_keeps_hostFields _)).trans
    (clampBody_keeps_hostFields _)

theorem bodyOf_keeps_hostFields (i : Instr) : HostFieldsKept b (bodyOf i b) := by
  cases i with
  | nop => exact ⟨rfl, rfl, rfl, rfl, rfl, rfl, id⟩
  | convert => exact convertBody_keeps_hostFields b
  | detect => exact detectBody_keeps_hostFields b
  | quantize => exact quantizeBody_keeps_hostFields b
  | ratio => exact ratioBody_keeps_hostFields b
  | shift => exact shiftBody_keeps_hostFields b
  | clamp => exact clampBody_keeps_hostFields b
  | pass => exact passBody_keeps_hostFields b
  | process => exact processBody_keeps_hostFields b

/-- Only the three commands with an operand check of their own can raise ERR_OPERAND (60_exceptions.md R243). -/
theorem bodyOf_status_errOperand {i : Instr} (hquantize : i ≠ .quantize) (hratio : i ≠ .ratio) (hshift : i ≠ .shift) :
    (bodyOf i b).status.errOperand = b.status.errOperand := by
  cases i with
  | quantize => exact absurd rfl hquantize
  | ratio => exact absurd rfl hratio
  | shift => exact absurd rfl hshift
  | process => exact processBody_status_errOperand b
  | _ => rfl

end

/-- Settles O18: each body keeps the host's fields, the completion writes none of them, and PROCESS, whose frames in range pass
every operand check, raises no operand error. -/
theorem commandsLeaveHostStateAlone : Obligations.CommandsLeaveHostStateAlone := by
  intro i s
  obtain ⟨hctrl, hcmd, hinp, hillegal, hbusy, haccess, hoperand⟩ := bodyOf_keeps_hostFields s.block i
  exact ⟨_, exec_eq i s, rfl, rfl, rfl, hctrl, hcmd, hinp, hillegal, hbusy, haccess, hoperand,
    bodyOf_status_errOperand s.block⟩

end Sys2Proof.Machine
end

section
/-! PROOFS. QUANTIZE selects the first nearest scale entry (42_pitch_quantizer.md R160 to R163), RATIO stores the rounded quotient
(R165, R166). -/

namespace Sys2Proof.Machine

open Sys2Proof.Spec

/-! ## The linear scan -/

/-- Of ascending candidates the scan keeps one that none is nearer than, and that every earlier one is farther than. -/
theorem scanScale_firstNearest (f : Word) {k : Fin Config.scaleCount} {rest : List (Fin Config.scaleCount)}
    (hsorted : (k :: rest).Pairwise (· < ·)) :
    ∀ j ∈ k :: rest, scaleDistance f (scanScale f k rest) ≤ scaleDistance f j ∧
      (j < scanScale f k rest → scaleDistance f (scanScale f k rest) < scaleDistance f j) := by
  induction rest generalizing k with
  | nil =>
    intro j hj
    obtain rfl := List.mem_singleton.mp hj
    exact ⟨le_rfl, fun h => absurd h (lt_irrefl j)⟩
  | cons i rest ih =>
    have hki : k < i := List.rel_of_pairwise_cons hsorted List.mem_cons_self
    rw [scanScale]
    split
    case isTrue hnearer =>
      have hkept := ih hsorted.of_cons
      obtain ⟨hi, -⟩ := hkept i List.mem_cons_self
      exact List.forall_mem_cons.mpr ⟨⟨hi.trans hnearer.le, fun _ => hi.trans_lt hnearer⟩, hkept⟩
    case isFalse hnot =>
      have hfarther : scaleDistance f k ≤ scaleDistance f i := not_lt.mp hnot
      obtain ⟨⟨hle, hlt⟩, hrest⟩ := List.forall_mem_cons.mp (ih (k := k) (hsorted.sublist (by simp)))
      exact List.forall_mem_cons.mpr ⟨⟨hle, hlt⟩, List.forall_mem_cons.mpr
        ⟨⟨hle.trans hfarther, fun h => (hlt (hki.trans h)).trans_le hfarther⟩, hrest⟩⟩

/-- The exact distance of a scale entry from a frequency, as a real number (42_pitch_quantizer.md R161). -/
def noteDistance (f : Word) (k : Fin Config.scaleCount) : ℚ := |val32 (Config.scale k) - val32 f|

theorem noteDistance_eq_units (f : Word) (k : Fin Config.scaleCount) :
    noteDistance f k = scaleDistance f k * 2 ^ (-149 : ℤ) := by
  rw [noteDistance, val32_eq_units, val32_eq_units, ← sub_mul, abs_mul, abs_of_pos unit_pos, scaleDistance, Nat.cast_natAbs]
  push_cast
  rfl

/-- The model's choice is the first of the nearest entries of the whole scale. -/
theorem nearestNote_firstNearest (f : Word) (j : Fin Config.scaleCount) :
    noteDistance f (nearestNote f) ≤ noteDistance f j ∧
      (j < nearestNote f → noteDistance f (nearestNote f) < noteDistance f j) := by
  have hall : ∀ j : Fin Config.scaleCount, j ∈ [0, 1, 2, 3, 4, 5, 6, 7, 8, 9, 10, 11, 12] := by decide
  rw [noteDistance_eq_units, noteDistance_eq_units, mul_le_mul_iff_left₀ unit_pos, mul_lt_mul_iff_left₀ unit_pos, Nat.cast_le,
    Nat.cast_lt]
  exact scanScale_firstNearest f (by decide) j (hall j)

/-! ## Midpoints -/

/-- The scale ascends (00_scope.md R7). -/
theorem val32_scale_strictMono : StrictMono fun k => val32 (Config.scale k) := by
  have h : ∀ i : Fin 12, exactUnits (Config.scale i.castSucc) < exactUnits (Config.scale i.succ) := by decide
  exact Fin.strictMono_iff_lt_succ.mpr fun i => (val32_lt_iff _ _).mpr (h i)

/-- Of two entries the lower is as near exactly up to their midpoint. -/
theorem noteDistance_le_iff (f : Word) {j k : Fin Config.scaleCount} (h : j < k) :
    noteDistance f j ≤ noteDistance f k ↔ val32 f ≤ (val32 (Config.scale j) + val32 (Config.scale k)) / 2 := by
  have hjk : val32 (Config.scale j) < val32 (Config.scale k) := val32_scale_strictMono h
  rw [noteDistance, noteDistance, ← sq_le_sq, ← sub_nonneg, sq_sub_sq, mul_nonneg_iff_of_pos_right (by linarith)]
  constructor <;> intro _ <;> linarith

/-- The frequency lies between entry k's two midpoints, of which an endpoint has one (42_pitch_quantizer.md R163). -/
def BetweenMidpoints (f : Word) (k : Fin Config.scaleCount) : Prop :=
  (∀ j : Fin Config.scaleCount, j.val + 1 = k.val → (val32 (Config.scale j) + val32 (Config.scale k)) / 2 < val32 f) ∧
  (∀ j : Fin Config.scaleCount, k.val + 1 = j.val → val32 f ≤ (val32 (Config.scale k) + val32 (Config.scale j)) / 2)

theorem nearestNote_betweenMidpoints (f : Word) : BetweenMidpoints f (nearestNote f) := by
  refine ⟨fun j hj => ?_, fun j hj => ?_⟩
  · have hlt : j < nearestNote f := Fin.lt_def.mpr (by omega)
    rw [← not_le, ← noteDistance_le_iff f hlt, not_le]
    exact (nearestNote_firstNearest f j).2 hlt
  · rw [← noteDistance_le_iff f (Fin.lt_def.mpr (by omega))]
    exact (nearestNote_firstNearest f j).1

section

variable {f : Word} {j k : Fin Config.scaleCount} (h : BetweenMidpoints f k)
include h

/-- The scale ascends, so a lower entry than the neighbour has its midpoint no higher. -/
theorem BetweenMidpoints.midpoint_lt (hjk : j < k) : (val32 (Config.scale j) + val32 (Config.scale k)) / 2 < val32 f := by
  have hprev : j ≤ ⟨k.val - 1, by omega⟩ := Nat.le_sub_one_of_lt hjk
  have hmono := val32_scale_strictMono.monotone hprev
  linarith [h.1 ⟨k.val - 1, by omega⟩ (Nat.sub_add_cancel (Nat.one_le_of_lt hjk))]

theorem BetweenMidpoints.le_midpoint (hkj : k < j) : val32 f ≤ (val32 (Config.scale k) + val32 (Config.scale j)) / 2 := by
  have hnext : ⟨k.val + 1, by omega⟩ ≤ j := Nat.succ_le_of_lt hkj
  have hmono := val32_scale_strictMono.monotone hnext
  linarith [h.2 ⟨k.val + 1, by omega⟩ rfl]

theorem nearestNote_eq_of_betweenMidpoints : nearestNote f = k := by
  obtain ⟨hle, hlt⟩ := nearestNote_firstNearest f k
  rcases lt_trichotomy (nearestNote f) k with hr | hr | hr
  · exact absurd ((noteDistance_le_iff f hr).mp hle) (h.midpoint_lt hr).not_ge
  · exact hr
  · exact absurd ((noteDistance_le_iff f hr).mpr (h.le_midpoint hr)) (hlt hr).not_ge

end

theorem nearestNote_eq_iff (f : Word) (k : Fin Config.scaleCount) : nearestNote f = k ↔ BetweenMidpoints f k :=
  ⟨fun h => h ▸ nearestNote_betweenMidpoints f, nearestNote_eq_of_betweenMidpoints⟩

/-! ## What the two commands do, by their operand checks -/

theorem complete_raiseError_operand (b : Block) : (b.raiseError .operand).complete = operandError b := rfl

theorem isZero_iff_zeroDatum (w : Word) : isZero w = true ↔ ZeroDatum w := by
  rw [zeroDatum_iff_magBits, isZero, beq_iff_eq]

theorem ratioOperandOk_iff (t f : Word) :
    ratioOperandOk t f = true ↔ FiniteDatum t ∧ FiniteDatum f ∧ ¬ ZeroDatum f ∧ FiniteDatum (fdiv t f) := by
  simp only [ratioOperandOk, Bool.and_eq_true, Bool.not_eq_true', ← Bool.not_eq_true, isFinite_iff_finiteDatum,
    isZero_iff_zeroDatum, and_assoc]

section

variable {s : State}

theorem exec_quantize_of_finite (h : FiniteDatum s.block.freq) :
    exec .quantize s = .next { s with
      block := { s.block with
        noteidx := BitVec.ofNat 4 (nearestNote s.block.freq).val
        target := Config.scale (nearestNote s.block.freq)
        status := completed s.block.status
        pending := none } } := by
  rw [exec_eq, bodyOf, State.finish, quantizeBody_ok ((isFinite_iff_finiteDatum _).mpr h)]
  rfl

theorem exec_quantize_of_not_finite (h : ¬ FiniteDatum s.block.freq) :
    exec .quantize s = .next { s with block := operandError s.block } := by
  rw [← isFinite_iff_finiteDatum, Bool.not_eq_true] at h
  rw [exec_eq, bodyOf, State.finish, quantizeBody_bad h, complete_raiseError_operand]

theorem exec_ratio_of_ok (h : ratioOperandOk s.block.target s.block.freq = true) :
    exec .ratio s = .next { s with
      block := { s.block with
        ratio := fdiv s.block.target s.block.freq
        status := completed s.block.status
        pending := none } } := by
  rw [exec_eq, bodyOf, State.finish, ratioBody_ok h]
  rfl

theorem exec_ratio_of_not_ok (h : ¬ ratioOperandOk s.block.target s.block.freq = true) :
    exec .ratio s = .next { s with block := operandError s.block } := by
  rw [exec_eq, bodyOf, State.finish, ratioBody_bad (Bool.not_eq_true _ ▸ h), complete_raiseError_operand]

end

/-- Settles O31: the scan keeps the first of the nearest entries, compared in exact units. -/
theorem quantizePicksTheNearestNote : Obligations.QuantizePicksTheNearestNote := fun s =>
  ⟨fun h => ⟨nearestNote s.block.freq, fun j => (nearestNote_firstNearest _ j).1, fun j => (nearestNote_firstNearest _ j).2,
    exec_quantize_of_finite h⟩, exec_quantize_of_not_finite⟩

/-- Settles O32: NOTEIDX holds the nearest note, which its midpoints determine. -/
theorem quantizeByMidpoints : Obligations.QuantizeByMidpoints := by
  intro s h
  refine ⟨_, exec_quantize_of_finite h, fun k => ?_⟩
  have hidx : (BitVec.ofNat 4 (nearestNote s.block.freq).val).toNat = (nearestNote s.block.freq).val :=
    Nat.mod_eq_of_lt ((nearestNote s.block.freq).isLt.trans (by decide))
  simp only [hidx, ← Fin.ext_iff]
  exact nearestNote_eq_iff s.block.freq k

/-- Settles O33: the operand check is R166's, and the quotient stored is the primitive's. -/
theorem ratioDividesOrRaises : Obligations.RatioDividesOrRaises := by
  intro s
  refine ⟨fun ht hf h0 => ⟨_, isRnd32_fdiv ht hf h0, fun _ => ?_, fun hq => ?_, fun hq => ?_⟩, fun hbad => ?_⟩
  · exact signBit_fdiv ht hf h0
  · exact exec_ratio_of_ok ((ratioOperandOk_iff _ _).mpr ⟨ht, hf, h0, hq⟩)
  · refine exec_ratio_of_not_ok fun hok => ?_
    obtain ⟨-, -, -, hquot⟩ := (ratioOperandOk_iff _ _).mp hok
    exact hq hquot
  · refine exec_ratio_of_not_ok fun hok => ?_
    obtain ⟨ht, hf, h0, -⟩ := (ratioOperandOk_iff _ _).mp hok
    rcases hbad with h | h | h
    exacts [h ht, h hf, h0 h]

end Sys2Proof.Machine
end

section
/-! PROOFS. CONVERT is exact, CLAMP saturates and rounds half away from zero, the one undoes the other, PASS copies
(44_fixed_point_clamper.md R200 to R208). -/

namespace Sys2Proof.Machine

open Sys2Proof.Spec

/-! ## CONVERT, one sample -/

theorem val32_convertSample (s : Sample) : val32 (convertSample s) = (s.toInt : ℚ) / 32768 := by
  obtain ⟨-, hunits⟩ := convertSample_exact s
  rw [val32_eq_units, hunits, zpow_neg]
  push_cast
  ring

/-- A nonzero sample is at least 2^134 units, and a subnormal datum is below 2^23 units. -/
theorem expOf_convertSample_ne_zero {s : Sample} (h : s ≠ 0#16) : expOf (convertSample s) ≠ 0 := by
  intro he
  have hsmall : magUnits (convertSample s) < 2 ^ 23 := by
    simpa [← expOf_eq_expBits, he] using magUnits_lt_two_pow (convertSample s)
  have habs : |s.toInt * 2 ^ 134| < 2 ^ 23 := by
    rw [← (convertSample_exact s).2, abs_exactUnits]
    exact_mod_cast hsmall
  obtain ⟨hlow, hhigh⟩ := abs_lt.mp habs
  have hzero : s.toInt = 0 := by omega
  exact h (BitVec.eq_of_toInt_eq hzero)

/-! ## Rounding half away from zero -/

/-- The rounded value is one of the nearest integers. -/
theorem abs_roundHalfAway_sub_le (v : ℚ) : |(Spec.roundHalfAway v : ℚ) - v| ≤ 1 / 2 := by
  have hle : (⌊|v| + 1 / 2⌋ : ℚ) ≤ |v| + 1 / 2 := Int.floor_le _
  have hlt : |v| + 1 / 2 < ⌊|v| + 1 / 2⌋ + 1 := Int.lt_floor_add_one _
  rw [Spec.roundHalfAway, abs_le]
  split
  case isTrue hneg =>
    rw [abs_of_neg hneg] at hle hlt ⊢
    push_cast
    constructor <;> linarith
  case isFalse hnonneg =>
    rw [abs_of_nonneg (not_lt.mp hnonneg)] at hle hlt ⊢
    push_cast
    constructor <;> linarith

theorem roundHalfAway_intCast (n : ℤ) : Spec.roundHalfAway n = n := by
  have h : |((Spec.roundHalfAway n - n : ℤ) : ℚ)| < 1 := by
    push_cast
    exact (abs_roundHalfAway_sub_le n).trans_lt (by norm_num)
  exact sub_eq_zero.mp (Int.abs_lt_one_iff.mp (by exact_mod_cast h))

theorem abs_val32 (w : Word) : |val32 w| = magUnits w * 2 ^ (-149 : ℤ) := by
  rw [val32_eq_units, abs_mul, abs_of_pos unit_pos, ← Int.cast_abs, abs_exactUnits, Int.cast_natCast]

/-- The model takes the floor in units of 2^-149. -/
theorem floor_abs_val32_add_half (w : Word) :
    ⌊|val32 w| + 1 / 2⌋ = (((2 * magUnits w + 2 ^ 149) / 2 ^ 150 : ℕ) : ℤ) := by
  have habs : |val32 w| + 1 / 2 = ((2 * magUnits w + 2 ^ 149 : ℕ) : ℚ) / ((2 ^ 150 : ℕ) : ℚ) := by
    rw [abs_val32, zpow_neg]
    push_cast
    ring
  rw [habs, Rat.floor_natCast_div_natCast]
  rfl

/-- The model goes by the sign bit, which differs from the sign for -0 alone, whose rounding is 0. -/
theorem roundHalfAway_eq_spec (w : Word) : roundHalfAway w = Spec.roundHalfAway (val32 w) := by
  rw [Spec.roundHalfAway, floor_abs_val32_add_half, roundHalfAway]
  have hneg : val32 w < 0 ↔ exactUnits w < 0 := by
    rw [← not_le, ← not_le, val32_eq_units, mul_nonneg_iff_of_pos_right unit_pos, Int.cast_nonneg_iff]
  simp only [hneg, exactUnits_eq]
  cases signBit w
  · simp
  · rcases Nat.eq_zero_or_pos (magUnits w) with h | h <;> simp [h]

/-! ## CLAMP, one sample -/

/-- R205's saturation and rounding of a scaled value, on reals. -/
def saturate (v : ℚ) : ℤ :=
  if 32767 ≤ v then 32767 else if v ≤ -32768 then -32768 else Spec.roundHalfAway v

theorem saturate_of_high {v : ℚ} (h : 32767 ≤ v) : saturate v = 32767 := if_pos h

theorem saturate_of_low {v : ℚ} (h : v ≤ -32768) : saturate v = -32768 := by
  rw [saturate, if_neg (by linarith), if_pos h]

theorem saturate_bounds (v : ℚ) : -32768 ≤ saturate v ∧ saturate v ≤ 32767 := by
  unfold saturate
  split
  · decide
  · split
    · decide
    · obtain ⟨hlow, hhigh⟩ := abs_le.mp (abs_roundHalfAway_sub_le v)
      have hlow' : (-32769 : ℚ) < Spec.roundHalfAway v := by linarith
      have hhigh' : (Spec.roundHalfAway v : ℚ) < 32768 := by linarith
      norm_cast at hlow' hhigh'
      omega

theorem saturate_sample (s : Sample) : saturate s.toInt = s.toInt := by
  obtain ⟨hlow, hhigh⟩ := sample_bounds s
  unfold saturate
  norm_cast
  rw [roundHalfAway_intCast]
  omega

theorem finiteDatum_normF : FiniteDatum Config.normF := finiteDatum_of_isFinite rfl

theorem val32_normF : val32 Config.normF = 32768 := val32_of_exactUnits (n := 32768) rfl

/-- A finite datum is a significand of 24 bits times a power of two. -/
theorem magUnits_eq_significand (w : Word) : ∃ m k, m < 2 ^ 24 ∧ magUnits w = m * 2 ^ k := by
  have hf := fracBits_lt w
  unfold magUnits
  split
  · exact ⟨fracBits w, 0, by omega, by simp⟩
  · exact ⟨2 ^ 23 + fracBits w, expBits w - 1, by omega, rfl⟩

theorem fmul_normF_eq_roundUnits {y : Word} (hy : FiniteDatum y) :
    fmul y Config.normF = roundUnits (signBit y) (magUnits y * 2 ^ 15) 1 := by
  have hsign : signBit Config.normF = false := rfl
  have hmag : magUnits Config.normF = 2 ^ 15 * 2 ^ 149 := rfl
  rw [fmul_eq_roundUnits hy finiteDatum_normF, hsign, hmag, Bool.bne_false, ← mul_assoc]
  exact roundUnits_mul_right _ _ 1 (by positivity)

/-- Short of overflow the scaling only moves the exponent (44_fixed_point_clamper.md R205). -/
theorem fmul_normF_exact {y : Word} (hy : FiniteDatum y) (h : |val32 y * 32768| < (2 : ℚ) ^ 128 - 2 ^ 103) :
    val32 (fmul y Config.normF) = val32 y * 32768 := by
  have hbound : magUnits y * 2 ^ 15 < (2 ^ 25 - 1) * 2 ^ 252 := by
    rw [← not_le, ← mul_one (_ * 2 ^ 252), ← infinity_le_iff _ one_pos, ← overflow_iff _ one_pos, not_le]
    calc ((magUnits y * 2 ^ 15 : ℕ) : ℚ) / (1 : ℕ) * 2 ^ (-149 : ℤ) = |val32 y * 32768| := by
          rw [abs_mul, abs_val32, abs_of_pos (show (0 : ℚ) < 32768 by norm_num)]
          push_cast
          ring
      _ < 2 ^ 128 - 2 ^ 103 := h
  have hdvd : 2 ^ roundShift (magUnits y * 2 ^ 15) 1 ∣ magUnits y * 2 ^ 15 := by
    obtain ⟨m, k, hm, hmag⟩ := magUnits_eq_significand y
    rw [hmag, mul_assoc, ← pow_add]
    exact roundShift_dvd_of_lt _ hm
  obtain ⟨-, hunits⟩ := exactUnits_roundUnits_of_dvd (signBit y) hbound hdvd
  rw [fmul_normF_eq_roundUnits hy, val32_eq_units, val32_eq_units y, hunits, exactUnits_eq y]
  push_cast
  ring

theorem clampScaled_of_finite {w : Word} (h : FiniteDatum w) : clampScaled w = saturate (val32 w) := by
  have hmax : val32 Config.sampleMaxF = 32767 := val32_of_exactUnits (n := 32767) rfl
  have hmin : val32 Config.sampleMinF = -32768 := by
    simpa using val32_of_exactUnits (w := Config.sampleMinF) (n := -32768) rfl
  have hfinMax : FiniteDatum Config.sampleMaxF := finiteDatum_of_isFinite rfl
  have hfinMin : FiniteDatum Config.sampleMinF := finiteDatum_of_isFinite rfl
  simp only [clampScaled, saturate, fle_iff_val32 hfinMax h, fle_iff_val32 h hfinMin, hmax, hmin, roundHalfAway_eq_spec]
  rfl

/-- The scaled value is exact, or it overflowed to the infinity of a value past an end of the range. -/
theorem clampScaled_fmul_normF {y : Word} (hy : FiniteDatum y) :
    clampScaled (fmul y Config.normF) = saturate (val32 y * 32768) := by
  have hround : IsRnd32 (val32 y * 32768) (fmul y Config.normF) := by
    rw [← val32_normF]
    exact isRnd32_fmul hy finiteDatum_normF
  have ⟨hhigh, hlow, _⟩ := hround
  rcases lt_or_ge |val32 y * 32768| ((2 : ℚ) ^ 128 - 2 ^ 103) with h | h
  · rw [clampScaled_of_finite (finiteDatum_of_isRnd32 hround h), fmul_normF_exact hy h]
  · rcases le_abs.mp h with h | h
    · rw [hhigh h, saturate_of_high (by linarith)]
      rfl
    · rw [hlow (by linarith), saturate_of_low (by linarith)]
      rfl

theorem isNaN_iff_nanDatum (w : Word) : isNaN w = true ↔ NaNDatum w := by
  simp [isNaN, NaNDatum, expOf_eq_expBits, fracOf_eq_fracBits]

theorem clamp16_of_nan {y : Word} (h : NaNDatum y) : clamp16 y = 0#16 := if_pos ((isNaN_iff_nanDatum y).mpr h)

theorem toInt_clamp16_of_finite {y : Word} (h : FiniteDatum y) : (clamp16 y).toInt = saturate (val32 y * 32768) := by
  have hinf : isInf y = false := by simp [isInf, (finiteDatum_iff_expBits y).mp h]
  obtain ⟨hlow, hhigh⟩ := saturate_bounds (val32 y * 32768)
  simp only [clamp16, finiteDatum_not_nan h, hinf, Bool.false_eq_true, if_false, clampScaled_fmul_normF h]
  exact BitVec.toInt_ofInt_eq_self (by decide) hlow (Int.lt_add_one_iff.mpr hhigh)

/-- CLAMP undoes CONVERT (44_fixed_point_clamper.md R206). -/
theorem clamp16_convertSample (s : Sample) : clamp16 (convertSample s) = s := by
  refine BitVec.eq_of_toInt_eq ?_
  rw [toInt_clamp16_of_finite (convertSample_exact s).1, val32_convertSample, div_mul_cancel₀ _ (by norm_num), saturate_sample]

/-! ## The commands -/

/-- Settles O21: the exact value is the sample over 32768, which is never subnormal. -/
theorem convertIsExact : Obligations.ConvertIsExact := by
  intro s
  refine ⟨Frame.mapAll convertSample s.block.inp, exec_eq .convert s, fun i h => ?_⟩
  rw [mapAll_get _ _ _ h]
  refine ⟨(convertSample_exact _).1, val32_convertSample _, ?_⟩
  split
  case isTrue hzero =>
    rw [hzero]
    decide
  case isFalse hne => exact expOf_convertSample_ne_zero hne

/-- Settles O22: the scaled value is exact short of overflow, and the model's rounding is the spec's. -/
theorem clampSaturatesAndRounds : Obligations.ClampSaturatesAndRounds := by
  intro s
  refine ⟨Frame.mapAll clamp16 s.block.y, exec_eq .clamp s, fun i h => ?_⟩
  rw [mapAll_get _ _ _ h]
  refine ⟨fun hnan => ?_, fun hinf => ?_, fun hinf => ?_, toInt_clamp16_of_finite⟩
  · rw [clamp16_of_nan hnan]
    rfl
  · rw [hinf]
    rfl
  · rw [hinf]
    rfl

/-- Settles O23: a converted sample scaled back is the sample, an integer in range that neither end nor rounding moves. -/
theorem convertThenClampIsIdentity : Obligations.ConvertThenClampIsIdentity := by
  intro s
  refine ⟨_, _, exec_eq .convert s, exec_eq .clamp _, frame_ext fun i h => ?_⟩
  change (Frame.mapAll clamp16 (Frame.mapAll convertSample s.block.inp))[i] = s.block.inp[i]
  rw [mapAll_get, mapAll_get, clamp16_convertSample]

/-- Settles O24: PASS's body writes OUT alone, from IN. -/
theorem passCopiesInToOut : Obligations.PassCopiesInToOut := exec_eq .pass

end Sys2Proof.Machine
end
